-- ==== Sys2Proof/Word.lean ====
section
/-! DEFINITION. The widths of the block's values (spec/00_scope.md R9, R10): every register, the
accumulator and every table entry is a 64-bit unsigned word; a message byte has 8 bits; a register
index has 9 bits. -/

namespace Sys2Proof

/-- A register, the accumulator, a table entry or a command word (R9 ACC_WIDTH, R110). -/
abbrev Word := BitVec 64

/-- A message byte, or an opcode (R9 input unit, R111). -/
abbrev Byte := BitVec 8

/-- An index of the register space, 0x000 to 0x1FF (R80). -/
abbrev RegIndex := BitVec 9

/-- An index of the table RAM, 0 to 255 (R80). -/
abbrev EntryIndex := BitVec 8

end Sys2Proof
end

