-- ==== Sys2Proof/Syntax.lean ====
section
/-! DEFINITION. The commands of the block, one constructor for each row of spec/opcode_table.json (R115).
A command carries only the operand fields the row uses: DATA (R112) or N (R113). -/

namespace Sys2Proof

/-- The twelve commands of the crcbe command set, version 1 (R3, R115). -/
inductive Instr where
  /-- NOP, OPC 0x00 (R140). -/
  | nop
  /-- CONFIGURE, OPC 0x01 (R141). -/
  | configure
  /-- BUILD_TABLE, OPC 0x02 (R191). -/
  | buildTable
  /-- START, OPC 0x03 (R144). -/
  | start
  /-- RESUME, OPC 0x04 (R145). -/
  | resume
  /-- UPDATE_SLOW, OPC 0x05, with the message byte DATA (R172). -/
  | updateSlow (data : Byte)
  /-- UPDATE_FAST, OPC 0x06, with the message byte DATA (R194). -/
  | updateFast (data : Byte)
  /-- FINALIZE_OP, OPC 0x07 (R231). -/
  | finalizeOp
  /-- UNFINALIZE_OP, OPC 0x08 (R232). -/
  | unfinalizeOp
  /-- REFLECT_BITS, OPC 0x09, with the bit count N (R229). -/
  | reflectBits (n : BitVec 7)
  /-- REFLECT_BYTES, OPC 0x0A, with the byte count N (R230). -/
  | reflectBytes (n : BitVec 7)
  /-- CLEAR_ERR, OPC 0x0B (R146). -/
  | clearErr
deriving DecidableEq, Repr

/-- The command's name in R115, letter for letter. -/
def Instr.mnemonic : Instr → String
  | .nop => "NOP"
  | .configure => "CONFIGURE"
  | .buildTable => "BUILD_TABLE"
  | .start => "START"
  | .resume => "RESUME"
  | .updateSlow _ => "UPDATE_SLOW"
  | .updateFast _ => "UPDATE_FAST"
  | .finalizeOp => "FINALIZE_OP"
  | .unfinalizeOp => "UNFINALIZE_OP"
  | .reflectBits _ => "REFLECT_BITS"
  | .reflectBytes _ => "REFLECT_BYTES"
  | .clearErr => "CLEAR_ERR"

end Sys2Proof
end

