-- ==== Sys2Proof/WellFormed.lean ====
section
/-! DEFINITION. Which commands have an encoding: the range conditions of R115 on N. Every other field is
exactly as wide as its bits in the command word, so every value of it is encodable. -/

namespace Sys2Proof

/-- N is in the row's range: 0..64 for REFLECT_BITS, 0..8 for REFLECT_BYTES (R113, R117 items 4 and 5). -/
def Instr.wellFormed : Instr → Bool
  | .nop => true
  | .configure => true
  | .buildTable => true
  | .start => true
  | .resume => true
  | .updateSlow _ => true
  | .updateFast _ => true
  | .finalizeOp => true
  | .unfinalizeOp => true
  | .reflectBits n => decide (n.toNat ≤ 64)
  | .reflectBytes n => decide (n.toNat ≤ 8)
  | .clearErr => true

end Sys2Proof
end

