-- ==== Sys2Proof/Decode.lean ====
section
/-! DEFINITION. The command word (R110, R111), its decoder (R120), the encoder (R121) and the opcode map
as match and mask rows (R115). A word is one 64-bit value moved whole, so there is no byte order and no
length to decide (R87, R119). `none` is the decoder's ILLEGAL (R117). -/

namespace Sys2Proof

/-- OPC, bits 7:0 (R111). -/
def opcOf (w : Word) : Byte := w.extractLsb' 0 8

/-- DATA, bits 15:8 (R111, R112). -/
def dataOf (w : Word) : Byte := w.extractLsb' 8 8

/-- N, bits 22:16 (R111, R113). -/
def nOf (w : Word) : BitVec 7 := w.extractLsb' 16 7

/-- RSV, bits 63:23 (R111, R114). -/
def rsvOf (w : Word) : BitVec 41 := w.extractLsb' 23 41

/-- R120's "require c": the command if `c` holds, else ILLEGAL. -/
def demand (c : Prop) [Decidable c] (i : Instr) : Option Instr := if c then some i else none

/-- The decoding part of R120's `Execute(w)`; `none` where it raises ILLEGAL. -/
def decode (w : Word) : Option Instr :=
  if rsvOf w ≠ 0 then none
  else
    match (opcOf w).toNat with
    | 0x00 => demand (dataOf w = 0 ∧ nOf w = 0) .nop
    | 0x01 => demand (dataOf w = 0 ∧ nOf w = 0) .configure
    | 0x02 => demand (dataOf w = 0 ∧ nOf w = 0) .buildTable
    | 0x03 => demand (dataOf w = 0 ∧ nOf w = 0) .start
    | 0x04 => demand (dataOf w = 0 ∧ nOf w = 0) .resume
    | 0x05 => demand (nOf w = 0) (.updateSlow (dataOf w))
    | 0x06 => demand (nOf w = 0) (.updateFast (dataOf w))
    | 0x07 => demand (dataOf w = 0 ∧ nOf w = 0) .finalizeOp
    | 0x08 => demand (dataOf w = 0 ∧ nOf w = 0) .unfinalizeOp
    | 0x09 => demand (dataOf w = 0 ∧ (nOf w).toNat ≤ 64) (.reflectBits (nOf w))
    | 0x0A => demand (dataOf w = 0 ∧ (nOf w).toNat ≤ 8) (.reflectBytes (nOf w))
    | 0x0B => demand (dataOf w = 0 ∧ nOf w = 0) .clearErr
    | _ => none

/-- R121's assembled word, `OPC | DATA << 8 | N << 16`, RSV zero. -/
def assembleWord (opc data : Byte) (n : BitVec 7) : Word :=
  opc.setWidth 64 ||| (data.setWidth 64 <<< 8) ||| (n.setWidth 64 <<< 16)

/-- The command's word, every unused field 0 (R115, R121). -/
def encode : Instr → Word
  | .nop => assembleWord 0x00 0 0
  | .configure => assembleWord 0x01 0 0
  | .buildTable => assembleWord 0x02 0 0
  | .start => assembleWord 0x03 0 0
  | .resume => assembleWord 0x04 0 0
  | .updateSlow data => assembleWord 0x05 data 0
  | .updateFast data => assembleWord 0x06 data 0
  | .finalizeOp => assembleWord 0x07 0 0
  | .unfinalizeOp => assembleWord 0x08 0 0
  | .reflectBits n => assembleWord 0x09 0 n
  | .reflectBytes n => assembleWord 0x0A 0 n
  | .clearErr => assembleWord 0x0B 0 0

/-- One row of R115's match and mask table, with its extra condition N ≤ `nMax` (127, the field's
largest value, where the row has none). -/
structure OpcodeRow where
  mnemonic : String
  matchBits : Word
  maskBits : Word
  nMax : Nat
deriving DecidableEq, Repr

/-- R115: a word selects the row when `w & mask = match` and the row's condition on N holds. -/
def OpcodeRow.selects (r : OpcodeRow) (w : Word) : Bool :=
  w &&& r.maskBits == r.matchBits && decide ((nOf w).toNat ≤ r.nMax)

/-- R115's match and mask table, which is also spec/opcode_table.json. -/
def opcodeTable : List OpcodeRow :=
  [ ⟨"NOP", 0x0000000000000000, 0xFFFFFFFFFFFFFFFF, 127⟩,
    ⟨"CONFIGURE", 0x0000000000000001, 0xFFFFFFFFFFFFFFFF, 127⟩,
    ⟨"BUILD_TABLE", 0x0000000000000002, 0xFFFFFFFFFFFFFFFF, 127⟩,
    ⟨"START", 0x0000000000000003, 0xFFFFFFFFFFFFFFFF, 127⟩,
    ⟨"RESUME", 0x0000000000000004, 0xFFFFFFFFFFFFFFFF, 127⟩,
    ⟨"UPDATE_SLOW", 0x0000000000000005, 0xFFFFFFFFFFFF00FF, 127⟩,
    ⟨"UPDATE_FAST", 0x0000000000000006, 0xFFFFFFFFFFFF00FF, 127⟩,
    ⟨"FINALIZE_OP", 0x0000000000000007, 0xFFFFFFFFFFFFFFFF, 127⟩,
    ⟨"UNFINALIZE_OP", 0x0000000000000008, 0xFFFFFFFFFFFFFFFF, 127⟩,
    ⟨"REFLECT_BITS", 0x0000000000000009, 0xFFFFFFFFFF80FFFF, 64⟩,
    ⟨"REFLECT_BYTES", 0x000000000000000A, 0xFFFFFFFFFF80FFFF, 8⟩,
    ⟨"CLEAR_ERR", 0x000000000000000B, 0xFFFFFFFFFFFFFFFF, 127⟩ ]

/-- The command word whose low `nbits` bits are `w`'s and whose other bits are 0. -/
def tableWord (nbits w : Nat) : Word := BitVec.ofNat 64 (w % 2 ^ nbits)

/-- The command the decoder reads from the word whose low `nbits` bits are `w`'s: one 64-bit word,
numbered as spec/opcode_table.json numbers it. -/
def decodeTableWord (nbits w : Nat) : Option Instr := decode (tableWord nbits w)

end Sys2Proof
end

