-- ==== Sys2Proof/Config.lean ====
section
/-! DEFINITION. What the spec leaves open for an implementation or a platform: constants without a
value, so that no proof can depend on one. -/

namespace Sys2Proof

/-- What the table RAM holds after a reset: entry `entry` of the `draw`-th reset draw. The spec leaves
it unspecified, "any 256 values" (R50, R280, U9); a free value, log 4. -/
opaque Config.tableDraw (draw entry : Nat) : Word

/-- The platform's base address of the block, in units of 8 bytes. The platform chooses it (R81); a free
value, log 6. -/
opaque Config.baseUnit : Nat

/-- The platform's base address of the block in its byte-addressed space: register `i` stands at
`base + 8 * i` (R89), which is 8-byte aligned, so the base is (DEDUCED, log 6). -/
def Config.base : Nat := 8 * Config.baseUnit

/-- P_LATENCY, the cycles a command takes: OPEN, and no rule depends on it (R9, R291, U10); log 10. -/
opaque Config.pLatency : Nat

end Sys2Proof
end

