-- ==== Sys2Proof/Machine/State.lean ====
section
/-! DEFINITION. What the machine holds: the state record of spec/10_state.md R54, field by field, and beside
it the host's accesses to come, the values its reads returned and the count of reset draws, which are the
model's own (logs 1, 3, 4). The reset state (R53, R280). -/

namespace Sys2Proof.Machine

/-- One action of the host on the block: a whole-register access by index (R82, R83, R122), the same access
through a byte-addressed bus (R84, R89), or the reset input (R280). -/
inductive HostAccess where
  /-- `RD`: RegRead of the index (R82). -/
  | read (index : RegIndex)
  /-- `WR`: RegWrite of the value at the index (R83). -/
  | write (index : RegIndex) (value : Word)
  /-- A bus read of `size` bytes at byte address `addr` (R89, log 6). -/
  | busRead (addr size : Nat)
  /-- A bus write of `size` bytes at byte address `addr`; `value` is what an 8-byte access carries (R89, log 6). -/
  | busWrite (addr size : Nat) (value : Word)
  /-- The platform asserts the reset input (R280, log 5). -/
  | reset
deriving DecidableEq, Repr

/-- The reasons a step could stop with a fault: there are none. Errors never stop the block, it takes no
traps and never hangs (R253, R259); log 16. -/
inductive Fault where
deriving DecidableEq, Repr

/-- The reasons a step can give no meaning. -/
inductive Refusal where
  /-- Raised by an arm of exec whose command has no meaning yet. No arm raises it. Safe. -/
  | notModelled (mnemonic : String)
  /-- Raised by a bus access that is not one whole register at one index of the block: "A model refuses any
  access that is not a whole-register access at one index" (R84, R89, U14; log 6). Safe. -/
  | notWholeRegister (addr size : Nat)
deriving DecidableEq, Repr

/-- The outcome codes a command can end with (R250). -/
inductive OutcomeCode where
  /-- 0: the command succeeded. -/
  | ok
  /-- 1: the command word is illegal (R117). -/
  | illegal
  /-- 2: the command needs an active configuration and there is none. -/
  | notConfigured
  /-- 3: the staging configuration fails R142. -/
  | badConfig
  /-- 4: UPDATE_FAST without a table. -/
  | noTable
  /-- 5: OPERAND > MASK. -/
  | operandRange
deriving DecidableEq, Repr

/-- The table RAM: 256 entries of 64 bits (R50, R80; log 9). -/
abbrev TableRam := Vector Word 256

/-- The machine's state: R54's record, and the three fields of the model's own that end it. -/
structure State where
  /-- CFG, staging BITS and flags; bits 7:6 are zero (R32). -/
  stgCfg : BitVec 11
  /-- POLY, staging (R32). -/
  stgPoly : Word
  /-- INIT, staging (R32). -/
  stgInit : Word
  /-- XOROUT, staging (R32). -/
  stgXorout : Word
  /-- OPERAND (R38). -/
  operand : Word
  /-- CFG_VALID (R34, R41). -/
  cfgValid : Bool
  /-- A.BITS (R34). -/
  aBits : BitVec 6
  /-- A.REFIN (R34). -/
  aRefin : Bool
  /-- A.REFOUT_BITS (R34). -/
  aRefoutBits : Bool
  /-- A.REFOUT_BYTES (R34). -/
  aRefoutBytes : Bool
  /-- A.POLY (R34). -/
  aPoly : Word
  /-- A.INIT (R34). -/
  aInit : Word
  /-- A.XOROUT (R34). -/
  aXorout : Word
  /-- MASK (R36); stored, log 11. -/
  mask : Word
  /-- TOPBIT (R36); stored, log 11. -/
  topbit : Word
  /-- NBYTES (R36); stored, log 11. -/
  nbytes : Word
  /-- ACC, the internal accumulator (R37). -/
  acc : Word
  /-- AUXOUT (R39). -/
  auxout : Word
  /-- TABLE[0..255] (R50). -/
  table : TableRam
  /-- TABLE_VALID (R41, R50). -/
  tableValid : Bool
  /-- ERR_STICKY (R41, R42). -/
  errSticky : Bool
  /-- LAST_ERR (R41, R250). -/
  lastErr : BitVec 4
  /-- The model's own: the host's accesses to come, oldest first (R91, R122; log 1). -/
  pending : List HostAccess
  /-- The model's own: the values the host's reads returned, oldest first (R292; log 3). -/
  reads : List Word
  /-- The model's own: how many reset draws of the table RAM were made (log 4). -/
  draws : Nat
deriving DecidableEq, Repr

/-- The table RAM a reset leaves: 256 free values (R280, U9; log 4). -/
def tableAfterReset (draw : Nat) : TableRam := Vector.ofFn fun i => Config.tableDraw draw i.val

/-- The machine right after reset: R53's values, the table RAM a free draw, no access issued yet. -/
def State.reset : State :=
  { stgCfg := 0, stgPoly := 0, stgInit := 0, stgXorout := 0, operand := 0,
    cfgValid := false,
    aBits := 0, aRefin := false, aRefoutBits := false, aRefoutBytes := false,
    aPoly := 0, aInit := 0, aXorout := 0,
    mask := 0, topbit := 0, nbytes := 0,
    acc := 0, auxout := 0,
    table := tableAfterReset 0, tableValid := false,
    errSticky := false, lastErr := 0,
    pending := [], reads := [], draws := 1 }

end Sys2Proof.Machine
end

