-- ==== Sys2Proof/Machine/Ops.lean ====
section
/-! DEFINITION. The shared operations: the table RAM's MemRead and MemWrite (R12, R90), the two ways a
command ends (R251, R252), clearing the error record (R146, R260), the writes of a result register, the
reset event (R280) and the model's own bookkeeping of host accesses (logs 1, 3). -/

namespace Sys2Proof.Machine

/-- What a meaning answers. -/
abbrev Result := Host.Outcome State Fault Refusal

/-- `MemRead(TABLE, i)`; every index 0..255 exists, so no access faults (R12, R90). -/
def memRead (t : TableRam) (i : EntryIndex) : Word := t[i.toNat]'(i.isLt)

/-- `MemWrite(TABLE, i, v)` (R12, R90). -/
def memWrite (t : TableRam) (i : EntryIndex) (v : Word) : TableRam := t.set i.toNat v i.isLt

/-- "for i in 0..n-1: MemWrite(TABLE, i, entry(i))", the loop of BUILD_TABLE (R191). -/
def fillTable (entry : EntryIndex → Word) : Nat → TableRam → TableRam
  | 0, t => t
  | n + 1, t => memWrite (fillTable entry n t) (BitVec.ofNat 8 n) (entry (BitVec.ofNat 8 n))

/-- The number of an outcome code (R250). Codes 6 to 15 are never produced. -/
def OutcomeCode.code : OutcomeCode → BitVec 4
  | .ok => 0
  | .illegal => 1
  | .notConfigured => 2
  | .badConfig => 3
  | .noTable => 4
  | .operandRange => 5

/-- The state a successful command leaves: LAST_ERR is OK and ERR_STICKY is kept (R251). -/
def State.succeeded (s : State) : State := { s with lastErr := OutcomeCode.ok.code }

/-- The state an error outcome leaves: LAST_ERR is the code and ERR_STICKY is set, nothing else
(R252). The block's "trap entry" is exactly this: no mode, no saved register, no transfer (R259). -/
def State.failed (s : State) (e : OutcomeCode) : State :=
  { s with lastErr := e.code, errSticky := true }

/-- `ok` (R12, R251). -/
def ok (s : State) : Result := .next s.succeeded

/-- `raise Error(code)` (R12, R252). -/
def raiseError (e : OutcomeCode) (s : State) : Result := .next (s.failed e)

/-- The error record cleared: there is no return from an error, and this is the only operation of a
command that clears ERR_STICKY (R146, R260). -/
def State.errorCleared (s : State) : State := { s with errSticky := false }

/-- ACC written (R37). -/
def State.withAcc (s : State) (v : Word) : State := { s with acc := v }

/-- AUXOUT written (R39). -/
def State.withAuxout (s : State) (v : Word) : State := { s with auxout := v }

/-- The table RAM written and TABLE_VALID set (R191). -/
def State.withTable (s : State) (t : TableRam) : State := { s with table := t, tableValid := true }

/-- The whole block at its reset value, in one step, the table RAM a new free draw (R280, R281). The host's
accesses to come and the values it has read are not the block's state and stay (R54; log 5). -/
def State.afterReset (s : State) : State :=
  { State.reset with
    table := tableAfterReset s.draws, draws := s.draws + 1, pending := s.pending, reads := s.reads }

/-- The host's accesses to come replaced. -/
def State.withPending (s : State) (p : List HostAccess) : State := { s with pending := p }

/-- One more value returned to the host (R292; log 3). -/
def State.withRead (s : State) (v : Word) : State := { s with reads := s.reads ++ [v] }

end Sys2Proof.Machine
end

