-- ==== Sys2Proof/Machine/Operands.lean ====
section
/-! DEFINITION. The operand forms: the command word's DATA and N (R112, R113), the CFG register's fields
(R32), the derived values of a width (R36), the active configuration as the host reads it (R82). -/

namespace Sys2Proof.Machine

/-- DATA as a 64-bit value, zero-extended (R112). -/
def dataOperand (data : Byte) : Word := data.setWidth 64

/-- N as a count, unsigned (R113). -/
def countOperand (n : BitVec 7) : Nat := n.toNat

/-- `mask_n = 2^n − 1`, the low `n` bits set (R11). -/
def lowMask (n : Nat) : Word := BitVec.ofNat 64 (2 ^ n - 1)

/-- MASK of a width: `2^BITS − 1` (R36). -/
def maskOf (bits : BitVec 6) : Word := lowMask bits.toNat

/-- TOPBIT of a width: `2^(BITS−1)` (R36). -/
def topbitOf (bits : BitVec 6) : Word := BitVec.ofNat 64 (2 ^ (bits.toNat - 1))

/-- NBYTES of a width: `BITS div 8` (R36). -/
def nbytesOf (bits : BitVec 6) : Word := BitVec.ofNat 64 (bits.toNat / 8)

/-- BITS, bits 5:0 of CFG (R32). -/
def cfgBits (cfg : BitVec 11) : BitVec 6 := cfg.extractLsb' 0 6

/-- REFIN, bit 8 of CFG (R32). -/
def cfgRefin (cfg : BitVec 11) : Bool := cfg.getLsbD 8

/-- REFOUT_BITS, bit 9 of CFG (R32). -/
def cfgRefoutBits (cfg : BitVec 11) : Bool := cfg.getLsbD 9

/-- REFOUT_BYTES, bit 10 of CFG (R32). -/
def cfgRefoutBytes (cfg : BitVec 11) : Bool := cfg.getLsbD 10

/-- What CFG stores of a written value: `v & 0x73F`, the reserved bits dropped (R32, R83). -/
def cfgStored (v : Word) : BitVec 11 := (v &&& 0x73F).setWidth 11

/-- A flag as a 64-bit 0 or 1. -/
def flagWord (b : Bool) : Word := (BitVec.ofBool b).setWidth 64

/-- A_CFG: the active BITS and flags in CFG's layout (R34, R82). -/
def activeCfgWord (s : State) : Word :=
  s.aBits.setWidth 64 ||| (flagWord s.aRefin <<< 8) ||| (flagWord s.aRefoutBits <<< 9)
    ||| (flagWord s.aRefoutBytes <<< 10)

end Sys2Proof.Machine
end

