-- ==== Sys2Proof/Machine/Flags.lean ====
section
/-! DEFINITION. STATUS, its layout and the conditions commands read from it (R41, R42). The block has no
condition codes: no command computes a carry, zero or sign flag (R42, R174). -/

namespace Sys2Proof.Machine

/-- STATUS: CFG_VALID 0, TABLE_VALID 1, ERR_STICKY 2, LAST_ERR 11:8, the rest 0 (R41, R82). -/
def statusWord (s : State) : Word :=
  flagWord s.cfgValid ||| (flagWord s.tableValid <<< 1) ||| (flagWord s.errSticky <<< 2)
    ||| (s.lastErr.setWidth 64 <<< 8)

/-- The command runs only with an active configuration, else NOT_CONFIGURED (R42, R254). -/
def needConfigured (s : State) (run : Result) : Result :=
  if s.cfgValid then run else raiseError .notConfigured s

/-- The command runs only with a built table, else NO_TABLE (R42, R254). -/
def needTable (s : State) (run : Result) : Result :=
  if s.tableValid then run else raiseError .noTable s

/-- The command runs only with OPERAND ≤ MASK, else OPERAND_RANGE (R145, R231, R232, R254). -/
def needOperandInRange (s : State) (run : Result) : Result :=
  if s.operand ≤ s.mask then run else raiseError .operandRange s

end Sys2Proof.Machine
end

