-- ==== Sys2Proof/Machine/Reflect.lean ====
section
/-! DEFINITION. The bit_reflection_unit and the crc_finalize_unit (spec/43_reflect_finalize.md): the four
functions R220, R221, R224, R225, the RESULT view R228, and the commands REFLECT_BITS, REFLECT_BYTES,
FINALIZE_OP and UNFINALIZE_OP. -/

namespace Sys2Proof.Machine

/-- The first `k` rounds of R220's loop for a reflection of `n` bits: round `i` sets bit `n−1−i` if `v[i]` is 1. -/
def reflectBitsRounds (v : Word) (n : Nat) : Nat → Word
  | 0 => 0
  | i + 1 =>
    if v.getLsbD i then reflectBitsRounds v n i ||| ((1 : Word) <<< (n - 1 - i))
    else reflectBitsRounds v n i

/-- `ReflectBits(v, n)`, n in 0..64 (R220). -/
def bitsReflected (v : Word) (n : Nat) : Word := reflectBitsRounds v n n

/-- The first `k` rounds of R221's loop for a reflection of `n` bytes: round `j` puts byte `j` of `v` at byte `n−1−j`. -/
def reflectBytesRounds (v : Word) (n : Nat) : Nat → Word
  | 0 => 0
  | j + 1 => reflectBytesRounds v n j ||| ((v.extractLsb' (8 * j) 8).setWidth 64 <<< (8 * (n - 1 - j)))

/-- `ReflectBytes(v, n)`, n in 0..8 (R221). -/
def bytesReflected (v : Word) (n : Nat) : Word := reflectBytesRounds v n n

/-- `Finalize(crc)` under the active configuration: bit reflection, XOR, byte reflection (R224). -/
def finalized (s : State) (crc : Word) : Word :=
  let v := if s.aRefoutBits then bitsReflected crc s.aBits.toNat else crc
  let v := v ^^^ s.aXorout
  if s.aRefoutBytes then bytesReflected v s.nbytes.toNat else v

/-- `Unfinalize(v)` under the active configuration: the inverses in reverse order (R225). -/
def unfinalized (s : State) (v : Word) : Word :=
  let x := if s.aRefoutBytes then bytesReflected v s.nbytes.toNat else v
  let x := x ^^^ s.aXorout
  if s.aRefoutBits then bitsReflected x s.aBits.toNat else x

/-- The message byte as the per-byte steps use it: bit-reflected when REFIN is 1 (R223). -/
def inputByte (s : State) (data : Byte) : Word :=
  if s.aRefin then bitsReflected (dataOperand data) 8 else dataOperand data

/-- The RESULT view: Finalize(ACC), or 0 without a configuration (R40, R228). -/
def resultView (s : State) : Word := if s.cfgValid then finalized s s.acc else 0

/-- REFLECT_BITS: AUXOUT from the low N bits of OPERAND reversed (R229). N > 64 is ILLEGAL (R117, R229); the
decoder lets no such command through (log 8). -/
def execReflectBits (n : BitVec 7) (s : State) : Result :=
  if countOperand n ≤ 64 then ok (s.withAuxout (bitsReflected s.operand (countOperand n)))
  else raiseError .illegal s

/-- REFLECT_BYTES: AUXOUT from the low N bytes of OPERAND reversed (R230). N > 8 is ILLEGAL (R117, R230); the
decoder lets no such command through (log 8). -/
def execReflectBytes (n : BitVec 7) (s : State) : Result :=
  if countOperand n ≤ 8 then ok (s.withAuxout (bytesReflected s.operand (countOperand n)))
  else raiseError .illegal s

/-- FINALIZE_OP: AUXOUT from Finalize(OPERAND) (R231). -/
def execFinalizeOp (s : State) : Result :=
  needConfigured s (needOperandInRange s (ok (s.withAuxout (finalized s s.operand))))

/-- UNFINALIZE_OP: AUXOUT from Unfinalize(OPERAND) (R232). -/
def execUnfinalizeOp (s : State) : Result :=
  needConfigured s (needOperandInRange s (ok (s.withAuxout (unfinalized s s.operand))))

end Sys2Proof.Machine
end

