-- ==== Sys2Proof/Machine/Control.lean ====
section
/-! DEFINITION. The control commands (spec/40_control.md): NOP R140, CONFIGURE R141 to R143, START R144,
RESUME R145 and CLEAR_ERR R146. -/

namespace Sys2Proof.Machine

/-- `Legal(cfg, poly, init, xorout)`, the check CONFIGURE applies (R142). -/
def legalConfig (cfg : BitVec 11) (poly init xorout : Word) : Bool :=
  let b := cfgBits cfg
  let m := maskOf b
  decide (8 ≤ b.toNat) && decide (poly ≤ m) && decide (init ≤ m) && decide (xorout ≤ m)
    && (!cfgRefoutBytes cfg || b.toNat % 8 == 0)

/-- The staging configuration is legal (R141, R142). -/
def stagingLegal (s : State) : Bool := legalConfig s.stgCfg s.stgPoly s.stgInit s.stgXorout

/-- `Deconfigure()`: no active configuration, no table, every element 0 (R143). -/
def State.deconfigured (s : State) : State :=
  { s with
    cfgValid := false, tableValid := false,
    aBits := 0, aRefin := false, aRefoutBits := false, aRefoutBytes := false,
    aPoly := 0, aInit := 0, aXorout := 0,
    mask := 0, topbit := 0, nbytes := 0,
    acc := 0 }

/-- The staging configuration latched as the active one, ACC loaded with INIT, the table dropped (R141). -/
def State.configured (s : State) : State :=
  { s with
    aBits := cfgBits s.stgCfg, aRefin := cfgRefin s.stgCfg, aRefoutBits := cfgRefoutBits s.stgCfg,
    aRefoutBytes := cfgRefoutBytes s.stgCfg,
    aPoly := s.stgPoly, aInit := s.stgInit, aXorout := s.stgXorout,
    mask := maskOf (cfgBits s.stgCfg), topbit := topbitOf (cfgBits s.stgCfg),
    nbytes := nbytesOf (cfgBits s.stgCfg),
    cfgValid := true, tableValid := false,
    acc := s.stgInit }

/-- NOP (R140). -/
def execNop (s : State) : Result := ok s

/-- CONFIGURE: check and latch, or deconfigure and raise BAD_CONFIG (R141, R143). -/
def execConfigure (s : State) : Result :=
  if stagingLegal s then ok s.configured else raiseError .badConfig s.deconfigured

/-- START: ACC from the active INIT (R144). -/
def execStart (s : State) : Result := needConfigured s (ok (s.withAcc s.aInit))

/-- RESUME: ACC from Unfinalize(OPERAND) (R145). -/
def execResume (s : State) : Result :=
  needConfigured s (needOperandInRange s (ok (s.withAcc (unfinalized s s.operand))))

/-- CLEAR_ERR: ERR_STICKY cleared, then `ok` (R146). -/
def execClearErr (s : State) : Result := ok s.errorCleared

end Sys2Proof.Machine
end

