-- ==== Sys2Proof/Machine/Bitwise.lean ====
section
/-! DEFINITION. The crc_bitwise_engine unit (spec/41_bitwise_engine.md): the division core R170, the per-byte
step R171 and the command UPDATE_SLOW R172. -/

namespace Sys2Proof.Machine

/-- One round of modulo-2 division by the active polynomial (R170). -/
def divRound (s : State) (crc : Word) : Word :=
  if crc &&& s.topbit ≠ 0 then ((crc <<< 1) &&& s.mask) ^^^ s.aPoly
  else (crc <<< 1) &&& s.mask

/-- `k` rounds of division (R170). -/
def divRounds (s : State) : Nat → Word → Word
  | 0, crc => crc
  | k + 1, crc => divRounds s k (divRound s crc)

/-- `Div8(crc)`: exactly 8 rounds (R170). -/
def div8 (s : State) (crc : Word) : Word := divRounds s 8 crc

/-- `BITS − 8`, how far a byte is shifted to stand at the accumulator's top byte; 0..55 by R35. -/
def topByteShift (s : State) : Nat := s.aBits.toNat - 8

/-- `SlowStep(crc, data)` (R171). -/
def slowStep (s : State) (crc : Word) (data : Byte) : Word :=
  div8 s (crc ^^^ (inputByte s data <<< topByteShift s))

/-- UPDATE_SLOW: one byte folded into ACC with the bitwise algorithm (R172). -/
def execUpdateSlow (data : Byte) (s : State) : Result :=
  needConfigured s (ok (s.withAcc (slowStep s s.acc data)))

end Sys2Proof.Machine
end

