-- ==== Sys2Proof/Machine/Table.lean ====
section
/-! DEFINITION. The crc_table_generator and crc_table_lookup_pipeline units (spec/42_table_engine.md): the
table entry R190, the table-driven step R193, the table window R196 and the commands BUILD_TABLE R191 and
UPDATE_FAST R194. -/

namespace Sys2Proof.Machine

/-- `TableEntry(i)` (R190). -/
def tableEntry (s : State) (i : EntryIndex) : Word := div8 s (i.setWidth 64 <<< topByteShift s)

/-- The table RAM of the active configuration: all 256 entries written (R191). Irreducible, so that no proof
unrolls the 256 rounds by accident; `memRead_builtTable` says what it holds. -/
@[irreducible] def builtTable (s : State) : TableRam := fillTable (tableEntry s) 256 s.table

/-- The entry index of `FastStep`: the top byte of `crc` XOR the message byte (R193). -/
def lookupIndex (s : State) (crc : Word) (data : Byte) : EntryIndex :=
  (((crc >>> topByteShift s) ^^^ inputByte s data) &&& 0xFF).setWidth 8

/-- `FastStep(crc, data)` (R193). -/
def fastStep (s : State) (crc : Word) (data : Byte) : Word :=
  ((crc <<< 8) &&& s.mask) ^^^ memRead s.table (lookupIndex s crc data)

/-- The table window: entry `i`, or 0 while TABLE_VALID is 0 (R196). -/
def tableWindow (s : State) (i : EntryIndex) : Word := if s.tableValid then memRead s.table i else 0

/-- BUILD_TABLE: the table RAM written whole, then TABLE_VALID set (R191). -/
def execBuildTable (s : State) : Result :=
  needConfigured s (ok (s.withTable (builtTable s)))

/-- UPDATE_FAST: one byte folded into ACC with one table lookup (R194). -/
def execUpdateFast (data : Byte) (s : State) : Result :=
  needConfigured s (needTable s (ok (s.withAcc (fastStep s s.acc data))))

end Sys2Proof.Machine
end

