-- ==== Sys2Proof/Machine/Dispatch.lean ====
section
/-! DEFINITION. The meaning of each command, one arm per constructor of Instr (the case part of R120). -/

namespace Sys2Proof.Machine

def exec (i : Instr) (s : State) : Host.Outcome State Fault Refusal :=
  match i with
  | .nop => Sys2Proof.Machine.execNop s
  | .configure => Sys2Proof.Machine.execConfigure s
  | .buildTable => Sys2Proof.Machine.execBuildTable s
  | .start => Sys2Proof.Machine.execStart s
  | .resume => Sys2Proof.Machine.execResume s
  | .updateSlow data => Sys2Proof.Machine.execUpdateSlow data s
  | .updateFast data => Sys2Proof.Machine.execUpdateFast data s
  | .finalizeOp => Sys2Proof.Machine.execFinalizeOp s
  | .unfinalizeOp => Sys2Proof.Machine.execUnfinalizeOp s
  | .reflectBits n => Sys2Proof.Machine.execReflectBits n s
  | .reflectBytes n => Sys2Proof.Machine.execReflectBytes n s
  | .clearErr => Sys2Proof.Machine.execClearErr s

end Sys2Proof.Machine
end

