-- ==== Sys2Proof/Machine/HostPort.lean ====
section
/-! DEFINITION. The register interface (spec/20_memory.md): the command register's Execute (R43, R120), RegRead
(R82), RegWrite (R83), the byte-addressed view of both (R89), and one host access as one atomic step (R91). -/

namespace Sys2Proof.Machine

/-- The index of CMD (R33, R43). -/
def cmdIndex : RegIndex := 0x005

/-- `Execute(w)`: decode, then run the command; an illegal word raises ILLEGAL before any other check
(R117, R120, R255). -/
def executeWord (w : Word) (s : State) : Result :=
  match decode w with
  | some i => exec i s
  | none => raiseError .illegal s

/-- `RegRead(i)`: the value of an index; it changes no state (R82, R85, R86). -/
def regRead (i : RegIndex) (s : State) : Word :=
  if 0x100 ≤ i.toNat then tableWindow s (i.setWidth 8)
  else
    match i.toNat with
    | 0x000 => s.stgCfg.setWidth 64
    | 0x001 => s.stgPoly
    | 0x002 => s.stgInit
    | 0x003 => s.stgXorout
    | 0x004 => s.operand
    | 0x005 => 0
    | 0x008 => statusWord s
    | 0x009 => activeCfgWord s
    | 0x00A => s.aPoly
    | 0x00B => s.aInit
    | 0x00C => s.aXorout
    | 0x00D => s.mask
    | 0x00E => s.topbit
    | 0x00F => s.nbytes
    | 0x010 => s.acc
    | 0x011 => resultView s
    | 0x012 => s.auxout
    | _ => 0

/-- A staging register or OPERAND written (R32, R38, R83). -/
def State.withStgCfg (s : State) (v : Word) : State := { s with stgCfg := cfgStored v }
/-- POLY written (R32). -/
def State.withStgPoly (s : State) (v : Word) : State := { s with stgPoly := v }
/-- INIT written (R32). -/
def State.withStgInit (s : State) (v : Word) : State := { s with stgInit := v }
/-- XOROUT written (R32). -/
def State.withStgXorout (s : State) (v : Word) : State := { s with stgXorout := v }
/-- OPERAND written (R38). -/
def State.withOperand (s : State) (v : Word) : State := { s with operand := v }

/-- `RegWrite(i, v)`: a write to CMD runs a command, a write to a read-only or unmapped index is dropped
(R83, R85). -/
def regWrite (i : RegIndex) (v : Word) (s : State) : Result :=
  match i.toNat with
  | 0x000 => .next (s.withStgCfg v)
  | 0x001 => .next (s.withStgPoly v)
  | 0x002 => .next (s.withStgInit v)
  | 0x003 => .next (s.withStgXorout v)
  | 0x004 => .next (s.withOperand v)
  | 0x005 => executeWord v s
  | _ => .next s

/-- A host read: the value goes to the host, the block's state stays (R82, R292). -/
def hostRead (i : RegIndex) (s : State) : Result := .next (s.withRead (regRead i s))

/-- The register a bus access names: `size` is 8, the address is 8-byte aligned and is `base + 8 * i` for an
index `i` of the register space (R84, R89; log 6). -/
def busIndex (addr size : Nat) : Option RegIndex :=
  if size = 8 ∧ addr % 8 = 0 ∧ Config.base ≤ addr ∧ (addr - Config.base) / 8 < 512 then
    some (BitVec.ofNat 9 ((addr - Config.base) / 8))
  else none

/-- One access of the host, as one atomic step of the block (R91). -/
def hostStep (a : HostAccess) (s : State) : Result :=
  match a with
  | .read i => hostRead i s
  | .write i v => regWrite i v s
  | .busRead addr size =>
    match busIndex addr size with
    | some i => hostRead i s
    | none => .refused (.notWholeRegister addr size)
  | .busWrite addr size v =>
    match busIndex addr size with
    | some i => regWrite i v s
    | none => .refused (.notWholeRegister addr size)
  | .reset => .next s.afterReset

/-- The next step: the host's first access to come, in host order (R91). With none to come the run has ended
(R292), and the block, which acts only when it is accessed (R31), stays as it is (log 2). -/
def nextAccess (s : State) : Result :=
  match s.pending with
  | [] => .next s
  | a :: rest => hostStep a (s.withPending rest)

end Sys2Proof.Machine
end

