-- ==== Sys2Proof/Machine/Step.lean ====
section
/-! DEFINITION. One step of the machine, and a command placed so that the next step runs it. -/

namespace Sys2Proof.Machine

/-- One step: the host's next access (R91). -/
def step (s : State) : Host.Outcome State Fault Refusal := nextAccess s

/-- The host's next access writes this command word to CMD (R43); its other accesses follow (log 1). -/
def State.withFetchWord (s : State) (nbits w : Nat) : State :=
  s.withPending (.write cmdIndex (tableWord nbits w) :: s.pending)

end Sys2Proof.Machine
end

