-- ==== Sys2Proof/Machine/Assembler.lean ====
section
/-! DEFINITION. The notation of host programs (spec/30_encoding.md R121 to R128): the register names, the
statements and pseudo-instructions with their expansion into host accesses, and the reading of a line of text.
Notation only: no value of the block depends on it (D27). -/

namespace Sys2Proof.Machine

/-- The register names of R33, and `TABLE[i]` (R122). -/
inductive RegName where
  | cfg | poly | init | xorout | operand | cmd | status | aCfg | aPoly | aInit | aXorout
  | mask | topbit | nbytes | acc | result | auxout
  | table (i : EntryIndex)
deriving DecidableEq, Repr

/-- The index of a register name (R33); `TABLE[i]` is index 0x100 + i (R122). -/
def RegName.index : RegName → RegIndex
  | .cfg => 0x000
  | .poly => 0x001
  | .init => 0x002
  | .xorout => 0x003
  | .operand => 0x004
  | .cmd => 0x005
  | .status => 0x008
  | .aCfg => 0x009
  | .aPoly => 0x00A
  | .aInit => 0x00B
  | .aXorout => 0x00C
  | .mask => 0x00D
  | .topbit => 0x00E
  | .nbytes => 0x00F
  | .acc => 0x010
  | .result => 0x011
  | .auxout => 0x012
  | .table i => 0x100 + i.setWidth 9

/-- `WR reg, v` (R122). -/
def wr (r : RegName) (v : Word) : HostAccess := .write r.index v

/-- `RD reg` (R122). -/
def rd (r : RegName) : HostAccess := .read r.index

/-- A command line: shorthand for `WR CMD, <assembled word>` (R122). -/
def command (i : Instr) : HostAccess := wr .cmd (encode i)

/-- `SETCFG bits, poly, init, xorout, refin, refout_bits, refout_bytes` (R123). -/
def setcfg (bits poly init xorout refin refoutBits refoutBytes : Word) : List HostAccess :=
  [wr .cfg (bits ||| (refin <<< 8) ||| (refoutBits <<< 9) ||| (refoutBytes <<< 10)),
   wr .poly poly, wr .init init, wr .xorout xorout, command .configure]

/-- `RESUME_FROM v` (R124). -/
def resumeFrom (v : Word) : List HostAccess := [wr .operand v, command .resume]

/-- `FEED_SLOW b0, ..., bk` (R125). -/
def feedSlow (bytes : List Byte) : List HostAccess := bytes.map fun b => command (.updateSlow b)

/-- `FEED_FAST b0, ..., bk` (R125). -/
def feedFast (bytes : List Byte) : List HostAccess := bytes.map fun b => command (.updateFast b)

/-- `REFLECT_BITS_OF v, n` (R126). -/
def reflectBitsOf (v : Word) (n : BitVec 7) : List HostAccess :=
  [wr .operand v, command (.reflectBits n), rd .auxout]

/-- `REFLECT_BYTES_OF v, n` (R126). -/
def reflectBytesOf (v : Word) (n : BitVec 7) : List HostAccess :=
  [wr .operand v, command (.reflectBytes n), rd .auxout]

/-- `FINALIZE_OF v` (R126). -/
def finalizeOf (v : Word) : List HostAccess := [wr .operand v, command .finalizeOp, rd .auxout]

/-- `UNFINALIZE_OF v` (R126). -/
def unfinalizeOf (v : Word) : List HostAccess := [wr .operand v, command .unfinalizeOp, rd .auxout]

/-- `COMPUTE_SLOW "s"` (R127). -/
def computeSlow (bytes : List Byte) : List HostAccess :=
  command .start :: (feedSlow bytes ++ [rd .result])

/-- `COMPUTE_FAST "s"` (R128). -/
def computeFast (bytes : List Byte) : List HostAccess :=
  command .buildTable :: command .start :: (feedFast bytes ++ [rd .result])

/-- A token of a line of text (R121, R122; log 13). -/
inductive Token where
  | word (cs : List Char)
  | byteChar (c : Char)
  | text (cs : List Char)
  | comma
  | openBracket
  | closeBracket
  | arrow
deriving DecidableEq, Repr

/-- What the reader of a line is in the middle of. -/
inductive LexMode where
  | idle
  | word (acc : List Char)
  | text (acc : List Char)
  | quote
  | quoted (c : Char)
  | dash
  | comment
deriving DecidableEq, Repr

/-- A letter, a digit or `_`. -/
def isWordChar (c : Char) : Bool := c.isAlphanum || c == '_'

/-- An ASCII character, so that it stands for one byte (R121, R125). -/
def isAscii (c : Char) : Bool := c.toNat < 128

/-- What a character outside any token begins: `;` a comment, `'` a character literal, a double quote a string (R121). -/
def lexStart (c : Char) : Option (List Token × LexMode) :=
  if c == ' ' || c == Char.ofNat 9 then some ([], .idle)
  else if c == ';' then some ([], .comment)
  else if c == ',' then some ([.comma], .idle)
  else if c == '[' then some ([.openBracket], .idle)
  else if c == ']' then some ([.closeBracket], .idle)
  else if c == '-' then some ([], .dash)
  else if c == Char.ofNat 39 then some ([], .quote)
  else if c == Char.ofNat 34 then some ([], .text [])
  else if isWordChar c then some ([], .word [c])
  else none

/-- The tokens of a line; `none` for a line that is not of R121's form. -/
def lex : LexMode → List Char → Option (List Token)
  | .idle, [] => some []
  | .comment, [] => some []
  | .word acc, [] => some [.word acc.reverse]
  | .text _, [] => none
  | .quote, [] => none
  | .quoted _, [] => none
  | .dash, [] => none
  | .idle, c :: cs => do
    let (ts, m) ← lexStart c
    let rest ← lex m cs
    some (ts ++ rest)
  | .comment, _ :: cs => lex .comment cs
  | .word acc, c :: cs =>
    if isWordChar c then lex (.word (c :: acc)) cs
    else do
      let (ts, m) ← lexStart c
      let rest ← lex m cs
      some (.word acc.reverse :: (ts ++ rest))
  | .text acc, c :: cs =>
    if c == Char.ofNat 34 then do
      let rest ← lex .idle cs
      some (.text acc.reverse :: rest)
    else if isAscii c then lex (.text (c :: acc)) cs
    else none
  | .quote, c :: cs => if isAscii c then lex (.quoted c) cs else none
  | .quoted q, c :: cs =>
    if c == Char.ofNat 39 then do
      let rest ← lex .idle cs
      some (.byteChar q :: rest)
    else none
  | .dash, c :: cs =>
    if c == '>' then do
      let rest ← lex .idle cs
      some (.arrow :: rest)
    else none

/-- A decimal or hexadecimal digit's value. -/
def digitValue (c : Char) : Option Nat :=
  let n := c.toNat
  if 48 ≤ n ∧ n ≤ 57 then some (n - 48)
  else if 65 ≤ n ∧ n ≤ 70 then some (n - 55)
  else if 97 ≤ n ∧ n ≤ 102 then some (n - 87)
  else none

/-- The digits `cs` in base `base`, most significant first, after the value `acc` of those before them. -/
def digitsValue (base : Nat) : Nat → List Char → Option Nat
  | acc, [] => some acc
  | acc, c :: cs =>
    match digitValue c with
    | some d => if d < base then digitsValue base (acc * base + d) cs else none
    | none => none

/-- A number: decimal, or hexadecimal after `0x` (R121). -/
def numberValue : List Char → Option Nat
  | '0' :: 'x' :: c :: cs => digitsValue 16 0 (c :: cs)
  | c :: cs => digitsValue 10 0 (c :: cs)
  | [] => none

/-- A number that a 64-bit register holds. -/
def wordArg : Token → Option Word
  | .word cs => (numberValue cs).bind fun n => if n < 2 ^ 64 then some (BitVec.ofNat 64 n) else none
  | _ => none

/-- A byte operand: a number 0..255 or a character literal (R121). -/
def byteArg : Token → Option Byte
  | .word cs => (numberValue cs).bind fun n => if n < 256 then some (BitVec.ofNat 8 n) else none
  | .byteChar c => some (BitVec.ofNat 8 c.toNat)
  | _ => none

/-- A count operand of at most `limit` (R121). -/
def countArg (limit : Nat) : Token → Option (BitVec 7)
  | .word cs => (numberValue cs).bind fun n => if n ≤ limit then some (BitVec.ofNat 7 n) else none
  | _ => none

/-- The operands of a line: tokens with commas between them. -/
def operandList : List Token → Option (List Token)
  | [] => some []
  | [t] => if t = .comma then none else some [t]
  | t :: .comma :: u :: rest =>
    if t = .comma then none else (operandList (u :: rest)).map (t :: ·)
  | _ => none

/-- The bytes a FEED or COMPUTE line names: a string's ASCII bytes in order, or byte operands (R125). -/
def byteList : List Token → Option (List Byte)
  | [.text cs] => some (cs.map fun c => BitVec.ofNat 8 c.toNat)
  | [] => none
  | ts => ts.mapM byteArg

/-- A register name of R33 other than the table window's. -/
def namedReg (cs : List Char) : Option RegName :=
  if cs = "CFG".toList then some .cfg
  else if cs = "POLY".toList then some .poly
  else if cs = "INIT".toList then some .init
  else if cs = "XOROUT".toList then some .xorout
  else if cs = "OPERAND".toList then some .operand
  else if cs = "CMD".toList then some .cmd
  else if cs = "STATUS".toList then some .status
  else if cs = "A_CFG".toList then some .aCfg
  else if cs = "A_POLY".toList then some .aPoly
  else if cs = "A_INIT".toList then some .aInit
  else if cs = "A_XOROUT".toList then some .aXorout
  else if cs = "MASK".toList then some .mask
  else if cs = "TOPBIT".toList then some .topbit
  else if cs = "NBYTES".toList then some .nbytes
  else if cs = "ACC".toList then some .acc
  else if cs = "RESULT".toList then some .result
  else if cs = "AUXOUT".toList then some .auxout
  else none

/-- The register a line names, and the tokens after it (R122). -/
def regOperand : List Token → Option (RegName × List Token)
  | .word t :: .openBracket :: .word n :: .closeBracket :: rest =>
    if t = "TABLE".toList then (byteArg (.word n)).map fun i => (.table i, rest) else none
  | .word cs :: rest => (namedReg cs).map fun r => (r, rest)
  | _ => none

/-- `WR <reg>, <value>` after its first word (R122). -/
def writeLine (ts : List Token) : Option (List HostAccess) :=
  match regOperand ts with
  | some (r, [.comma, v]) => (wordArg v).map fun w => [wr r w]
  | _ => none

/-- `RD <reg>`, or `RD <reg> -> <value>` as a reader writes it, after its first word (R122). -/
def readLine (ts : List Token) : Option (List HostAccess) :=
  match regOperand ts with
  | some (r, []) => some [rd r]
  | some (r, [.arrow, v]) => (wordArg v).map fun _ => [rd r]
  | _ => none

/-- A line that is one mnemonic without operands (R121). -/
def plainCommand (m : List Char) : Option Instr :=
  if m = "NOP".toList then some .nop
  else if m = "CONFIGURE".toList then some .configure
  else if m = "BUILD_TABLE".toList then some .buildTable
  else if m = "START".toList then some .start
  else if m = "RESUME".toList then some .resume
  else if m = "FINALIZE_OP".toList then some .finalizeOp
  else if m = "UNFINALIZE_OP".toList then some .unfinalizeOp
  else if m = "CLEAR_ERR".toList then some .clearErr
  else none

/-- SETCFG's seven operands (R123). -/
def setcfgLine : List Word → Option (List HostAccess)
  | [bits, poly, init, xorout, refin, refoutBits, refoutBytes] =>
    some (setcfg bits poly init xorout refin refoutBits refoutBytes)
  | _ => none

/-- A line of one value operand and one count operand of at most `limit` (R126). -/
def valueCountLine (limit : Nat) (f : Word → BitVec 7 → List HostAccess) :
    List Token → Option (List HostAccess)
  | [v, n] => (wordArg v).bind fun w => (countArg limit n).map fun k => f w k
  | _ => none

/-- A line of one operand, read by `arg` (R121, R124, R126). -/
def oneOperandLine {α : Type} (arg : Token → Option α) (f : α → List HostAccess) :
    List Token → Option (List HostAccess)
  | [t] => (arg t).map f
  | _ => none

/-- A line that begins with a command's mnemonic or a pseudo-instruction's name, its operands given (R121 to R128). -/
def namedLine (m : List Char) (args : List Token) : Option (List HostAccess) :=
  if m = "UPDATE_SLOW".toList then oneOperandLine byteArg (fun b => [command (.updateSlow b)]) args
  else if m = "UPDATE_FAST".toList then oneOperandLine byteArg (fun b => [command (.updateFast b)]) args
  else if m = "REFLECT_BITS".toList then
    oneOperandLine (countArg 64) (fun n => [command (.reflectBits n)]) args
  else if m = "REFLECT_BYTES".toList then
    oneOperandLine (countArg 8) (fun n => [command (.reflectBytes n)]) args
  else if m = "SETCFG".toList then (args.mapM wordArg).bind setcfgLine
  else if m = "RESUME_FROM".toList then oneOperandLine wordArg resumeFrom args
  else if m = "FEED_SLOW".toList then (byteList args).map feedSlow
  else if m = "FEED_FAST".toList then (byteList args).map feedFast
  else if m = "REFLECT_BITS_OF".toList then valueCountLine 64 reflectBitsOf args
  else if m = "REFLECT_BYTES_OF".toList then valueCountLine 8 reflectBytesOf args
  else if m = "FINALIZE_OF".toList then oneOperandLine wordArg finalizeOf args
  else if m = "UNFINALIZE_OF".toList then oneOperandLine wordArg unfinalizeOf args
  else if m = "COMPUTE_SLOW".toList then (byteList args).map computeSlow
  else if m = "COMPUTE_FAST".toList then (byteList args).map computeFast
  else if args = [] then (plainCommand m).map fun i => [command i]
  else none

/-- The host accesses a line's tokens stand for; an empty line stands for none (R121, R122). -/
def tokenLine : List Token → Option (List HostAccess)
  | [] => some []
  | .word m :: ts =>
    if m = "WR".toList then writeLine ts
    else if m = "RD".toList then readLine ts
    else (operandList ts).bind (namedLine m)
  | _ => none

/-- The host accesses a line of text stands for, `none` for a line that is not of the notation (R121 to R128). -/
def assembleLine (line : List Char) : Option (List HostAccess) := (lex .idle line).bind tokenLine

/-- A host program: its lines' accesses in order (R122). -/
def assembleProgram (lines : List (List Char)) : Option (List HostAccess) :=
  (lines.mapM assembleLine).map List.flatten

end Sys2Proof.Machine
end

