-- ==== Sys2Proof/Safety.lean ====
section
/-! DEFINITION. What claims about the block are said in: the invariant of its state (R32, R35, R36, R37, R51,
R250), what two states have in common, what the host can see (R52, R292), the command an access carries, and which
commands, words and staging configurations a rule of the spec speaks of. -/

namespace Sys2Proof.Safety

open Sys2Proof.Machine

/-- Bits 7:6 of CFG are reserved and read 0 (R32, R54). -/
def StagingReservedZero (s : State) : Prop := s.stgCfg.getLsbD 6 = false ∧ s.stgCfg.getLsbD 7 = false

/-- R35, first sentence: the active configuration is legal while CFG_VALID is 1. -/
def ActiveLegal (s : State) : Prop :=
  s.cfgValid = true →
    8 ≤ s.aBits.toNat ∧ s.aBits.toNat ≤ 63 ∧
    s.aPoly ≤ s.mask ∧ s.aInit ≤ s.mask ∧ s.aXorout ≤ s.mask ∧
    (s.aRefoutBytes = true → s.aBits.toNat % 8 = 0)

/-- R35, second sentence: without a configuration every element of it is 0. -/
def ActiveZeroWhenAbsent (s : State) : Prop :=
  s.cfgValid = false →
    s.aBits = 0 ∧ s.aRefin = false ∧ s.aRefoutBits = false ∧ s.aRefoutBytes = false ∧
    s.aPoly = 0 ∧ s.aInit = 0 ∧ s.aXorout = 0

/-- R36: MASK, TOPBIT and NBYTES are the derived values of A.BITS, and 0 without a configuration. -/
def DerivedAgree (s : State) : Prop :=
  (s.cfgValid = true →
    s.mask.toNat = 2 ^ s.aBits.toNat - 1 ∧ s.topbit.toNat = 2 ^ (s.aBits.toNat - 1) ∧
    s.nbytes.toNat = s.aBits.toNat / 8) ∧
  (s.cfgValid = false → s.mask = 0 ∧ s.topbit = 0 ∧ s.nbytes = 0)

/-- R37: ACC ≤ MASK, and ACC is 0 without a configuration. -/
def AccInRange (s : State) : Prop := s.acc ≤ s.mask ∧ (s.cfgValid = false → s.acc = 0)

/-- R51: while TABLE_VALID is 1 there is a configuration and every entry is its TableEntry. -/
def TableAgrees (s : State) : Prop :=
  s.tableValid = true → s.cfgValid = true ∧ ∀ i : EntryIndex, memRead s.table i = tableEntry s i

/-- LAST_ERR is one of the codes 0 to 5 (R250, U12), and a code other than OK leaves ERR_STICKY set until
CLEAR_ERR or reset, which also write LAST_ERR to OK (R42). -/
def ErrorRecordSound (s : State) : Prop :=
  s.lastErr.toNat ≤ 5 ∧ (s.lastErr ≠ 0 → s.errSticky = true)

/-- The invariant of the block's state. -/
structure StateInv (s : State) : Prop where
  staging : StagingReservedZero s
  legal : ActiveLegal s
  absent : ActiveZeroWhenAbsent s
  derived : DerivedAgree s
  acc : AccInRange s
  table : TableAgrees s
  errors : ErrorRecordSound s

/-- A state in which a computation can run: the invariant, and an active configuration. -/
def Ready (s : State) : Prop := StateInv s ∧ s.cfgValid = true

/-- The active configuration is the one CONFIGURE latches from these values (R34, R36, R141). -/
def ActiveIs (s : State) (cfg : BitVec 11) (poly init xorout : Word) : Prop :=
  s.cfgValid = true ∧ s.aBits = cfgBits cfg ∧ s.aRefin = cfgRefin cfg ∧ s.aRefoutBits = cfgRefoutBits cfg ∧
  s.aRefoutBytes = cfgRefoutBytes cfg ∧ s.aPoly = poly ∧ s.aInit = init ∧ s.aXorout = xorout ∧
  s.mask = maskOf (cfgBits cfg) ∧ s.topbit = topbitOf (cfgBits cfg) ∧ s.nbytes = nbytesOf (cfgBits cfg)

/-- The reference configuration CRC-32 is active (95_test_vectors.md section 1). -/
def Crc32Active (s : State) : Prop := ActiveIs s 0x320 0x04C11DB7 0xFFFFFFFF 0xFFFFFFFF

/-- The reference configuration CRC-CCITT Kermit is active (95_test_vectors.md section 1). -/
def KermitActive (s : State) : Prop := ActiveIs s 0x710 0x1021 0 0

/-- The reference configuration CRC-DNP is active (95_test_vectors.md section 1). -/
def DnpActive (s : State) : Prop := ActiveIs s 0x710 0x3D65 0 0xFFFF

/-- The staging registers and OPERAND are the same. -/
def SameStaging (s t : State) : Prop :=
  t.stgCfg = s.stgCfg ∧ t.stgPoly = s.stgPoly ∧ t.stgInit = s.stgInit ∧ t.stgXorout = s.stgXorout ∧
  t.operand = s.operand

/-- CFG_VALID, the active configuration (R34) and the derived registers (R36) are the same. -/
def SameActive (s t : State) : Prop :=
  t.cfgValid = s.cfgValid ∧ t.aBits = s.aBits ∧ t.aRefin = s.aRefin ∧ t.aRefoutBits = s.aRefoutBits ∧
  t.aRefoutBytes = s.aRefoutBytes ∧ t.aPoly = s.aPoly ∧ t.aInit = s.aInit ∧ t.aXorout = s.aXorout ∧
  t.mask = s.mask ∧ t.topbit = s.topbit ∧ t.nbytes = s.nbytes

/-- Every entry of the table RAM reads the same. -/
def SameTableRam (s t : State) : Prop := ∀ i : EntryIndex, memRead t.table i = memRead s.table i

/-- The host's accesses to come, its reads and the draw counter are the same (the model's own fields). -/
def SameHost (s t : State) : Prop := t.pending = s.pending ∧ t.reads = s.reads ∧ t.draws = s.draws

/-- The two states are the same but for the hidden parts: the draw counter, and the table RAM's contents
while TABLE_VALID is 0 (R50, R52). -/
def SameVisible (s t : State) : Prop :=
  { s with table := t.table, draws := t.draws } = t ∧ (s.tableValid = true → SameTableRam s t)

/-- The command word an access writes to CMD, if it writes one (R43, R89). -/
def commandOf : HostAccess → Option Word
  | .write i v => if i = cmdIndex then some v else none
  | .busWrite addr size v =>
    match busIndex addr size with
    | some i => if i = cmdIndex then some v else none
    | none => none
  | .read _ => none
  | .busRead _ _ => none
  | .reset => none

/-- The access does not clear the error record: it is no reset, and no CLEAR_ERR command (R42). -/
def KeepsErrorRecord (a : HostAccess) : Prop :=
  a ≠ .reset ∧ ∀ w, commandOf a = some w → decode w ≠ some .clearErr

/-- ACC after the message `m`, from the accumulator `c0` (R176). -/
def accAfter (s : State) (c0 : Word) (m : List Byte) : Word := m.foldl (slowStep s) c0

/-- `ComputeSlow(m)` under the active configuration (R176). -/
def computedSlow (s : State) (m : List Byte) : Word := finalized s (accAfter s s.aInit m)

/-- `k` steps lead from `s` to `t`, none of them stopping. -/
def runs : Nat → State → State → Prop
  | 0, s, t => t = s
  | k + 1, s, t => ∃ u, step s = .next u ∧ runs k u t

/-- The commands that need an active configuration (R254). -/
def NeedsConfig (i : Instr) : Prop :=
  i = .buildTable ∨ i = .start ∨ i = .resume ∨ (∃ d, i = .updateSlow d) ∨ (∃ d, i = .updateFast d) ∨
  i = .finalizeOp ∨ i = .unfinalizeOp

/-- The commands that need OPERAND ≤ MASK (R254). -/
def NeedsOperandInRange (i : Instr) : Prop :=
  i = .resume ∨ i = .finalizeOp ∨ i = .unfinalizeOp

/-- The commands that write ACC (R37). -/
def WritesAcc (i : Instr) : Prop :=
  i = .configure ∨ i = .start ∨ i = .resume ∨ (∃ d, i = .updateSlow d) ∨ (∃ d, i = .updateFast d)

/-- The commands that write AUXOUT (R39). -/
def WritesAuxout (i : Instr) : Prop :=
  (∃ n, i = .reflectBits n) ∨ (∃ n, i = .reflectBytes n) ∨ i = .finalizeOp ∨ i = .unfinalizeOp

/-- The access writes to CMD the word of a command satisfying `p` (R43). -/
def Carries (a : HostAccess) (p : Instr → Prop) : Prop :=
  ∃ w i, commandOf a = some w ∧ decode w = some i ∧ p i

/-- A host read of the index changes no state of the block (R86); `reads`, which takes the value it returns, is
the model's own record of what the host has seen (log 3). -/
def ReadChangesNoState (i : RegIndex) (s : State) : Prop :=
  ∃ t, hostStep (.read i) s = .next t ∧ t = { s with reads := t.reads }

/-- The word's fields are illegal by one of R117's five items. -/
def IllegalFields (w : Word) : Prop :=
  let opc := (w.extractLsb' 0 8).toNat
  let data := (w.extractLsb' 8 8).toNat
  let n := (w.extractLsb' 16 7).toNat
  w.extractLsb' 23 41 ≠ 0 ∨
  (0x0C ≤ opc ∧ opc ≤ 0xFF) ∨
  (opc ≤ 0x0B ∧ ((opc ≠ 0x05 ∧ opc ≠ 0x06 ∧ data ≠ 0) ∨ (opc ≠ 0x09 ∧ opc ≠ 0x0A ∧ n ≠ 0))) ∨
  (opc = 0x09 ∧ 64 < n) ∨
  (opc = 0x0A ∧ 8 < n)

/-- A word with this opcode that is none of the legal ones, written to CMD, raises ILLEGAL and does nothing
else (R116, R117). -/
def IllegalUnless (opc : Nat) (legal : Word → Prop) : Prop :=
  ∀ (w : Word) (s : State), (w.extractLsb' 0 8).toNat = opc → ¬ legal w →
    executeWord w s = .next { s with lastErr := 1, errSticky := true }

/-- The staging configuration is legal, in numbers (R142). -/
def StagingLegal (s : State) : Prop :=
  let b := s.stgCfg.toNat % 64
  8 ≤ b ∧ s.stgPoly.toNat ≤ 2 ^ b - 1 ∧ s.stgInit.toNat ≤ 2 ^ b - 1 ∧ s.stgXorout.toNat ≤ 2 ^ b - 1 ∧
  (s.stgCfg.getLsbD 10 = true → b % 8 = 0)

end Sys2Proof.Safety
end

