-- ==== Sys2Proof/Certificates/Slice0/Obligations.lean ====
section
/-! DEFINITION. The statements for the provers: what each command does, when it raises which error, what it
leaves unchanged, what the host's accesses do, the invariant of the state, and the laws of the CRC. -/

open Sys2Proof Sys2Proof.Machine Sys2Proof.Safety

/-! Helpers of the statements. -/

/-- The value of a word as a polynomial over GF(2): bit `i` is the coefficient of `X^i`. -/
noncomputable def Sys2Proof.Spec.polyOf (w : Word) : Polynomial (ZMod 2) :=
  ∑ i ∈ Finset.range 64, if w.getLsbD i then (Polynomial.X : Polynomial (ZMod 2)) ^ i else 0

/-- The generator of the active configuration: `X^BITS` and the bits of POLY below it. -/
noncomputable def Sys2Proof.Spec.generator (s : State) : Polynomial (ZMod 2) :=
  (Polynomial.X : Polynomial (ZMod 2)) ^ s.aBits.toNat + Sys2Proof.Spec.polyOf s.aPoly

open Sys2Proof.Spec

/-! ## Encoding and decoding -/

/-- Words written out from the spec's encodings (R111, R115, and the examples of R140 to R232) decode to the
commands they stand for. -/
def Obligations.EncodedWordsDecode : Prop :=
  decode 0x0000000000000000 = some .nop ∧
  decode 0x0000000000000001 = some .configure ∧
  decode 0x0000000000000002 = some .buildTable ∧
  decode 0x0000000000000003 = some .start ∧
  decode 0x0000000000000004 = some .resume ∧
  decode 0x0000000000003105 = some (.updateSlow 0x31) ∧
  decode 0x0000000000003106 = some (.updateFast 0x31) ∧
  decode 0x0000000000000007 = some .finalizeOp ∧
  decode 0x0000000000000008 = some .unfinalizeOp ∧
  decode 0x0000000000200009 = some (.reflectBits 32) ∧
  decode 0x000000000004000A = some (.reflectBytes 4) ∧
  decode 0x000000000000000B = some .clearErr

/-- Every well-formed command, with every operand its encoding admits, decodes from its own word (R115, R120,
R121). -/
def Obligations.DecodeOfEncodeIsSame : Prop :=
  ∀ i : Instr, i.wellFormed = true → decode (encode i) = some i

/-- A word that decodes is the one word of the command it decodes to, and that command is well-formed: no bit
of the word is ignored (R116). -/
def Obligations.EncodeOfDecodeIsSame : Prop :=
  ∀ (w : Word) (i : Instr), decode w = some i → encode i = w ∧ i.wellFormed = true

/-- R114, R117, R118: exactly the words of the five items are illegal, and such a word written to CMD raises
ILLEGAL and has no other effect. Opcodes 0x0C to 0xFF are among them. -/
def Obligations.IllegalWordsRaiseIllegalOnly : Prop :=
  ∀ w : Word,
    (decode w = none ↔ IllegalFields w) ∧
    (IllegalFields w → ∀ s : State, regWrite 0x005 w s = .next { s with lastErr := 1, errSticky := true })

/-- The match and mask rows of R115 select exactly the words that decode to the row's command; a word that
no row selects is illegal, and no word is selected by two rows (R116). -/
def Obligations.OpcodeRowsSelectDecodedWords : Prop :=
  ∀ w : Word,
    (∀ r ∈ opcodeTable, r.selects w = true ↔ ∃ i, decode w = some i ∧ i.mnemonic = r.mnemonic) ∧
    (decode w = none ↔ ∀ r ∈ opcodeTable, r.selects w = false) ∧
    (∀ r ∈ opcodeTable, ∀ q ∈ opcodeTable, r.selects w = true → q.selects w = true → r = q)

/-! ## The step and the host's accesses -/

/-- R43, R120: when the host's next access writes to CMD a word that decodes to `i`, the step is exec of `i`,
on the state whose pending accesses are the ones after it. -/
def Obligations.StepRunsDecodedCommand : Prop :=
  ∀ (s : State) (w : Word) (rest : List HostAccess) (i : Instr),
    s.pending = .write 0x005 w :: rest → decode w = some i →
    step s = exec i { s with pending := rest }

/-- What one step is (R91, log 1): the first of the host's pending accesses, taken with the others still
pending; with none pending, the state stays as it is (log 2). A read of an index appends the value RegRead gives to
the values read and changes nothing else (log 3), and a write of a value to an index is RegWrite of it (R83). The
reset event leaves the pending accesses and the values read (log 5). The pending accesses (log 1), the idle step
(log 2), the list a read appends to (log 3) and what the reset event leaves of the two lists (log 5) are the
model's choices, each marked DESIGN CHOICE. -/
def Obligations.StepTakesTheNextAccess : Prop :=
  (∀ (s : State) (a : HostAccess) (rest : List HostAccess), s.pending = a :: rest →
    step s = hostStep a { s with pending := rest }) ∧
  (∀ s : State, s.pending = [] → step s = .next s) ∧
  (∀ (s : State) (i : RegIndex), hostStep (.read i) s = .next { s with reads := s.reads ++ [regRead i s] }) ∧
  (∀ (s : State) (i : RegIndex) (v : Word), hostStep (.write i v) s = regWrite i v s) ∧
  (∀ s t : State, hostStep .reset s = .next t → t.pending = s.pending ∧ t.reads = s.reads)

/-- R86: a host read changes no state, so a second read of the index returns the same value; a write to an
index other than CMD is idempotent and a write to CMD is not, in general: two UPDATEs process the byte twice. -/
def Obligations.ReadsAreFreeOfSideEffects : Prop :=
  (∀ (s : State) (i : RegIndex), ReadChangesNoState i s) ∧
  (∀ (s t : State) (i j : RegIndex), hostStep (.read i) s = .next t → regRead j t = regRead j s) ∧
  (∀ (s t : State) (i : RegIndex) (v : Word), i ≠ 0x005 → regWrite i v s = .next t →
    regWrite i v t = .next t) ∧
  (∃ (s t u : State) (d : Byte), Ready s ∧ regWrite 0x005 (encode (.updateSlow d)) s = .next t ∧
    regWrite 0x005 (encode (.updateSlow d)) t = .next u ∧
    t.acc = accAfter s s.acc [d] ∧ u.acc = accAfter s s.acc [d, d] ∧ t.acc ≠ u.acc)

/-- R32, R38: a write to CFG stores its value less the reserved bits, a write to POLY, INIT, XOROUT or OPERAND
stores all 64 bits; none has another effect, no command writes any of the five, and all five read 0 after reset. -/
def Obligations.StagingAndOperandWrites : Prop :=
  (∀ (s : State) (v : Word),
    (∃ c : BitVec 11, c.setWidth 64 = v &&& 0x73F ∧
      regWrite 0x000 v s = .next { s with stgCfg := c } ∧
      regRead 0x000 { s with stgCfg := c } = v &&& 0x000000000000073F ∧
      c.extractLsb' 0 6 = v.extractLsb' 0 6 ∧ c.getLsbD 8 = v.getLsbD 8 ∧
      c.getLsbD 9 = v.getLsbD 9 ∧ c.getLsbD 10 = v.getLsbD 10) ∧
    regWrite 0x001 v s = .next { s with stgPoly := v } ∧
    regWrite 0x002 v s = .next { s with stgInit := v } ∧
    regWrite 0x003 v s = .next { s with stgXorout := v } ∧
    regWrite 0x004 v s = .next { s with operand := v } ∧
    regRead 0x001 { s with stgPoly := v } = v ∧
    regRead 0x002 { s with stgInit := v } = v ∧
    regRead 0x003 { s with stgXorout := v } = v ∧
    regRead 0x004 { s with operand := v } = v) ∧
  (∀ (w : Word) (s t : State), executeWord w s = .next t → SameStaging s t) ∧
  (∀ s t : State, hostStep .reset s = .next t →
    regRead 0x000 t = 0 ∧ regRead 0x001 t = 0 ∧ regRead 0x002 t = 0 ∧ regRead 0x003 t = 0 ∧
    regRead 0x004 t = 0)

/-- R85: a write to a read-only or unmapped index changes nothing, an unmapped index reads 0, and the reserved
bits of CFG, STATUS and A_CFG read 0. -/
def Obligations.UnmappedAndReadOnlyAccesses : Prop :=
  ∀ s : State,
    (∀ (i : RegIndex) (v : Word), 6 ≤ i.toNat → regWrite i v s = .next s) ∧
    (∀ i : RegIndex,
      (i = 0x006 ∨ i = 0x007 ∨ (0x013 ≤ i.toNat ∧ i.toNat ≤ 0x0FF)) → regRead i s = 0) ∧
    (StagingReservedZero s → ∀ k, (k = 6 ∨ k = 7 ∨ 11 ≤ k) → (regRead 0x000 s).getLsbD k = false) ∧
    (∀ k, ((3 ≤ k ∧ k ≤ 7) ∨ 12 ≤ k) → (regRead 0x008 s).getLsbD k = false) ∧
    (∀ k, (k = 6 ∨ k = 7 ∨ 11 ≤ k) → (regRead 0x009 s).getLsbD k = false) ∧
    (∀ v : Word, regWrite 0x000 v s = regWrite 0x000 (v &&& 0x73F) s)

/-- R41: STATUS has CFG_VALID at bit 0, TABLE_VALID at bit 1, ERR_STICKY at bit 2, LAST_ERR at bits 11:8 and
zeros elsewhere; a write to it is dropped; it is 0 after reset. -/
def Obligations.StatusLayout : Prop :=
  (∀ s : State,
    (regRead 0x008 s).getLsbD 0 = s.cfgValid ∧
    (regRead 0x008 s).getLsbD 1 = s.tableValid ∧
    (regRead 0x008 s).getLsbD 2 = s.errSticky ∧
    (regRead 0x008 s).extractLsb' 3 5 = 0 ∧
    (regRead 0x008 s).extractLsb' 8 4 = s.lastErr ∧
    (regRead 0x008 s).extractLsb' 12 52 = 0 ∧
    (∀ v : Word, regWrite 0x008 v s = .next s)) ∧
  (∀ s t : State, hostStep .reset s = .next t →
    regRead 0x008 t = 0)

/-- R34, R82: A_CFG holds the active BITS at 5:0, REFIN at 8, REFOUT_BITS at 9, REFOUT_BYTES at 10 and zeros
elsewhere, and A_POLY, A_INIT, A_XOROUT, MASK, TOPBIT, NBYTES, ACC and AUXOUT read as they stand. -/
def Obligations.ActiveConfigurationReads : Prop :=
  ∀ s : State,
    (regRead 0x009 s).extractLsb' 0 6 = s.aBits ∧
    (regRead 0x009 s).getLsbD 8 = s.aRefin ∧
    (regRead 0x009 s).getLsbD 9 = s.aRefoutBits ∧
    (regRead 0x009 s).getLsbD 10 = s.aRefoutBytes ∧
    (regRead 0x009 s).extractLsb' 6 2 = 0 ∧
    (regRead 0x009 s).extractLsb' 11 53 = 0 ∧
    regRead 0x00A s = s.aPoly ∧ regRead 0x00B s = s.aInit ∧ regRead 0x00C s = s.aXorout ∧
    regRead 0x00D s = s.mask ∧ regRead 0x00E s = s.topbit ∧ regRead 0x00F s = s.nbytes ∧
    regRead 0x010 s = s.acc ∧ regRead 0x012 s = s.auxout ∧ regRead 0x005 s = 0

/-- R196: the table window reads entry `i` at index 0x100 + i while TABLE_VALID is 1 and 0 otherwise; the read
has no side effect, and a write to the window is dropped. -/
def Obligations.TableWindowReads : Prop :=
  ∀ (s : State) (i : EntryIndex) (x : RegIndex), x.toNat = 0x100 + i.toNat →
    (s.tableValid = true → regRead x s = memRead s.table i) ∧
    (s.tableValid = false → regRead x s = 0) ∧
    ReadChangesNoState x s ∧
    (∀ v : Word, regWrite x v s = .next s)

/-- R228: RESULT reads Finalize(ACC) with a configuration and 0 without one, and the read changes no state. -/
def Obligations.ResultViewReads : Prop :=
  ∀ s : State,
    (s.cfgValid = true → regRead 0x011 s = finalized s s.acc) ∧
    (s.cfgValid = false → regRead 0x011 s = 0) ∧
    ReadChangesNoState 0x011 s

/-- R53: the reset event gives every element its reset value, and a host read then returns 0 at every index;
so it does in the state right after reset. The table RAM's contents are not stated. -/
def Obligations.ResetValuesAndReads : Prop :=
  (∀ s : State,
    ∃ t, hostStep .reset s = .next t ∧
      t.stgCfg = 0 ∧ t.stgPoly = 0 ∧ t.stgInit = 0 ∧ t.stgXorout = 0 ∧ t.operand = 0 ∧
      t.aBits = 0 ∧ t.aRefin = false ∧ t.aRefoutBits = false ∧ t.aRefoutBytes = false ∧
      t.aPoly = 0 ∧ t.aInit = 0 ∧ t.aXorout = 0 ∧ t.cfgValid = false ∧
      t.mask = 0 ∧ t.topbit = 0 ∧ t.nbytes = 0 ∧ t.acc = 0 ∧ t.auxout = 0 ∧
      t.tableValid = false ∧ t.errSticky = false ∧ t.lastErr = 0 ∧
      (∀ i : RegIndex, regRead i t = 0)) ∧
  (∀ i : RegIndex, regRead i State.reset = 0)

/-- R84, R89: through a byte-addressed bus, an 8-byte access at base + 8 × index is the access of that index,
and every other access is refused. (The base is the platform's, log 6.) -/
def Obligations.BusAdmitsWholeRegistersOnly : Prop :=
  ∀ (s : State) (addr size : Nat) (v : Word),
    (∀ i : RegIndex, size = 8 → addr = Config.base + 8 * i.toNat →
      hostStep (.busRead addr size) s = hostStep (.read i) s ∧
      hostStep (.busWrite addr size v) s = hostStep (.write i v) s) ∧
    ((size ≠ 8 ∨ ∀ i : RegIndex, addr ≠ Config.base + 8 * i.toNat) →
      hostStep (.busRead addr size) s = .refused (.notWholeRegister addr size) ∧
      hostStep (.busWrite addr size v) s = .refused (.notWholeRegister addr size))

/-! ## The control commands -/

/-- R140: NOP writes LAST_ERR OK and changes nothing else, with or without a configuration; its word is 0,
and every other word of its opcode is illegal. -/
def Obligations.NopResult : Prop :=
  (∀ w : Word, decode w = some .nop ↔ w = 0x0000000000000000) ∧
  IllegalUnless 0x00 (· = 0x0000000000000000) ∧
  (∀ s : State, exec .nop s = .next { s with lastErr := 0 }) ∧
  (∀ s : State, regRead 0x008 s = 0x405 → ∃ t, exec .nop s = .next t ∧ regRead 0x008 t = 0x005)

/-- R141, R142: CONFIGURE with a legal staging configuration latches it, computes MASK, TOPBIT and NBYTES,
sets CFG_VALID, clears TABLE_VALID, loads ACC with INIT and reports OK; staging, OPERAND, AUXOUT, the table
RAM's contents and ERR_STICKY are unchanged. -/
def Obligations.ConfigureLatchesLegalStaging : Prop :=
  ∀ s : State, StagingLegal s →
    ∃ t, exec .configure s = .next t ∧
      t.aBits.toNat = s.stgCfg.toNat % 64 ∧ t.aRefin = s.stgCfg.getLsbD 8 ∧
      t.aRefoutBits = s.stgCfg.getLsbD 9 ∧ t.aRefoutBytes = s.stgCfg.getLsbD 10 ∧
      t.aPoly = s.stgPoly ∧ t.aInit = s.stgInit ∧ t.aXorout = s.stgXorout ∧
      t.mask.toNat = 2 ^ (s.stgCfg.toNat % 64) - 1 ∧
      t.topbit.toNat = 2 ^ (s.stgCfg.toNat % 64 - 1) ∧
      t.nbytes.toNat = s.stgCfg.toNat % 64 / 8 ∧
      t.cfgValid = true ∧ t.tableValid = false ∧ t.acc = s.stgInit ∧ t.lastErr = 0 ∧
      t.errSticky = s.errSticky ∧ t.auxout = s.auxout ∧ SameStaging s t ∧ SameTableRam s t ∧ SameHost s t

/-- R143, R252: CONFIGURE with a staging configuration that is not legal deconfigures the block and raises
BAD_CONFIG; staging, OPERAND, AUXOUT and the table RAM's contents are unchanged, and every command that needs
a configuration raises NOT_CONFIGURED in the state it leaves. -/
def Obligations.ConfigureRefusesIllegalStaging : Prop :=
  ∀ s : State, ¬ StagingLegal s →
    ∃ t, exec .configure s = .next t ∧
      t = { s with
        cfgValid := false, tableValid := false, aBits := 0, aRefin := false, aRefoutBits := false,
        aRefoutBytes := false, aPoly := 0, aInit := 0, aXorout := 0, mask := 0, topbit := 0, nbytes := 0,
        acc := 0, lastErr := 3, errSticky := true } ∧
      regRead 0x011 t = 0 ∧
      ∀ i, NeedsConfig i → exec i t = .next { t with lastErr := 2 }

/-- R144: START loads ACC with the active INIT, RESULT then reads Finalize(INIT), nothing else changes but
LAST_ERR; without a configuration it raises NOT_CONFIGURED; right after a successful CONFIGURE it changes
nothing; its word is 3,
and every other word of its opcode is illegal. -/
def Obligations.StartResult : Prop :=
  (∀ w : Word, decode w = some .start ↔ w = 0x0000000000000003) ∧
  IllegalUnless 0x03 (· = 0x0000000000000003) ∧
  (∀ s : State, s.cfgValid = true →
    ∃ t, exec .start s = .next t ∧ t = { s with acc := s.aInit, lastErr := 0 } ∧
      regRead 0x011 t = finalized s s.aInit) ∧
  (∀ s : State, s.cfgValid = false → exec .start s = .next { s with lastErr := 2, errSticky := true }) ∧
  (∀ s t : State, exec .configure s = .next t → t.cfgValid = true → exec .start t = .next t) ∧
  (∀ s : State, Crc32Active s → s.acc = 0x9B63D02C →
    ∃ t, exec .start s = .next t ∧ t.acc = 0xFFFFFFFF ∧ regRead 0x011 t = 0x00000000)

/-- R145: RESUME loads ACC with Unfinalize(OPERAND), and RESULT then reads OPERAND again; OPERAND > MASK raises
OPERAND_RANGE, no configuration NOT_CONFIGURED; OPERAND = 0 is legal and gives an ACC other than 0 when XOROUT
is not 0; its word is 4,
and every other word of its opcode is illegal. -/
def Obligations.ResumeResult : Prop :=
  (∀ w : Word, decode w = some .resume ↔ w = 0x0000000000000004) ∧
  IllegalUnless 0x04 (· = 0x0000000000000004) ∧
  (∀ s : State, s.cfgValid = true → s.operand ≤ s.mask →
    exec .resume s = .next { s with acc := unfinalized s s.operand, lastErr := 0 }) ∧
  (∀ s : State, s.cfgValid = true → s.mask < s.operand →
    exec .resume s = .next { s with lastErr := 5, errSticky := true }) ∧
  (∀ s : State, s.cfgValid = false → exec .resume s = .next { s with lastErr := 2, errSticky := true }) ∧
  (∀ s t : State, Ready s → s.operand ≤ s.mask → exec .resume s = .next t → regRead 0x011 t = s.operand) ∧
  (∀ s t : State, Ready s → s.operand = 0 → exec .resume s = .next t →
    t.lastErr = 0 ∧ (s.aXorout ≠ 0 → t.acc ≠ 0)) ∧
  (∀ s : State, KermitActive s → s.operand = 0x3288 → ∃ t, exec .resume s = .next t ∧ t.acc = 0x4C11)

/-- R146: CLEAR_ERR clears ERR_STICKY, writes LAST_ERR OK and changes nothing else, with or without a
configuration; its word is 0xB, every other word of its opcode is
illegal, and 0x10B is illegal and sets ERR_STICKY. -/
def Obligations.ClearErrResult : Prop :=
  (∀ w : Word, decode w = some .clearErr ↔ w = 0x000000000000000B) ∧
  IllegalUnless 0x0B (· = 0x000000000000000B) ∧
  (∀ s : State, exec .clearErr s = .next { s with errSticky := false, lastErr := 0 }) ∧
  (∀ s : State, executeWord 0x10B s = .next { s with errSticky := true, lastErr := 1 }) ∧
  (∀ s : State, regRead 0x008 s = 0x505 → ∃ t, exec .clearErr s = .next t ∧ regRead 0x008 t = 0x001)

/-! ## The bitwise engine -/

/-- R172: UPDATE_SLOW folds its byte into ACC with SlowStep and changes nothing else but LAST_ERR, whatever
TABLE_VALID is; without a configuration it raises NOT_CONFIGURED; its words are those with OPC 0x05, the byte
at 15:8 and zeros elsewhere, and the other words of that opcode are illegal; with a table it does what UPDATE_FAST
does. -/
def Obligations.UpdateSlowResult : Prop :=
  (∀ (w : Word) (d : Byte), decode w = some (.updateSlow d) ↔ w = 0x05 ||| (d.setWidth 64 <<< 8)) ∧
  IllegalUnless 0x05 (fun w => w.extractLsb' 16 7 = 0 ∧ w.extractLsb' 23 41 = 0) ∧
  (∀ (s : State) (d : Byte), s.cfgValid = true →
    exec (.updateSlow d) s = .next { s with acc := slowStep s s.acc d, lastErr := 0 }) ∧
  (∀ (s : State) (d : Byte), s.cfgValid = false →
    exec (.updateSlow d) s = .next { s with lastErr := 2, errSticky := true }) ∧
  (∀ s : State, Ready s → slowStep s 0 0 = 0) ∧
  (∀ (s : State) (d : Byte), s.aBits = 8 → slowStep s s.acc d = div8 s (s.acc ^^^ inputByte s d)) ∧
  (∀ s : State, s.aRefin = true → inputByte s 0x01 = 0x80) ∧
  (∀ (s : State) (d : Byte), Ready s → s.tableValid = true →
    exec (.updateSlow d) s = exec (.updateFast d) s) ∧
  (∀ s : State, Crc32Active s → s.acc = 0xFFFFFFFF →
    ∃ t, exec (.updateSlow 0x31) s = .next t ∧ t.acc = 0x1208C43E)

/-- R4, R14, R170, R171, R174: SlowStep is modulo-2 polynomial division. The new accumulator, as a polynomial,
is the remainder of `ACC·X^8 + byte·X^BITS` by the generator `X^BITS + POLY`, for the byte as REFIN leaves it. -/
def Obligations.SlowStepIsPolynomialRemainder : Prop :=
  ∀ (s : State) (crc : Word) (d : Byte), Ready s → crc ≤ s.mask →
    polyOf (slowStep s crc d) =
      (polyOf crc * (Polynomial.X : Polynomial (ZMod 2)) ^ 8 +
        polyOf (inputByte s d) * (Polynomial.X : Polynomial (ZMod 2)) ^ s.aBits.toNat) %ₘ generator s

/-- R173: Div8 and SlowStep keep a value at most MASK, so UPDATE_SLOW keeps ACC ≤ MASK. -/
def Obligations.DivisionStaysInRange : Prop :=
  ∀ s : State, Ready s →
    (∀ crc : Word, crc ≤ s.mask → div8 s crc ≤ s.mask ∧ ∀ d : Byte, slowStep s crc d ≤ s.mask) ∧
    (∀ (d : Byte) (t : State), exec (.updateSlow d) s = .next t → t.acc ≤ t.mask)

/-- R175: Div8 is linear over exclusive-or on values up to MASK, and Div8(0) is 0. -/
def Obligations.DivisionIsLinear : Prop :=
  ∀ s : State, Ready s →
    (∀ a b : Word, a ≤ s.mask → b ≤ s.mask → div8 s (a ^^^ b) = div8 s a ^^^ div8 s b) ∧ div8 s 0 = 0

/-- R176, R125: feeding a message byte by byte with UPDATE_SLOW, from any ready state, leaves ACC at
AccAfter(ACC, m), every access taken and nothing else changed but LAST_ERR (for a message that is not empty). -/
def Obligations.FeedSlowFoldsMessage : Prop :=
  ∀ (m : List Byte) (s : State) (rest : List HostAccess), s.cfgValid = true → m ≠ [] →
    s.pending = feedSlow m ++ rest →
    runs m.length s { s with pending := rest, acc := accAfter s s.acc m, lastErr := 0 }

/-- R127, R176: COMPUTE_SLOW returns ComputeSlow(m) to the host, for every message. -/
def Obligations.ComputeSlowReturnsFinalizedRemainder : Prop :=
  ∀ (m : List Byte) (s : State) (rest : List HostAccess), s.cfgValid = true →
    s.pending = computeSlow m ++ rest →
    runs (m.length + 2) s
      { s with
        pending := rest, reads := s.reads ++ [computedSlow s m],
        acc := accAfter s s.aInit m, lastErr := 0 }

/-- R176, R124, R287: a message read out part-way as `v` goes on from RESUME_FROM v, in any ready state of the
same configuration, as if it had not been interrupted. -/
def Obligations.ResumedMessageContinues : Prop :=
  ∀ (m m' : List Byte) (s : State) (rest : List HostAccess), Ready s →
    s.pending = resumeFrom (finalized s (accAfter s s.aInit m)) ++ feedSlow m' ++ rest →
    runs (m'.length + 2) s
      { s with
        pending := rest, operand := finalized s (accAfter s s.aInit m),
        acc := accAfter s s.aInit (m ++ m'), lastErr := 0 }

/-- R177: with no byte fed since CONFIGURE or START, RESULT reads Finalize(INIT); for CRC-32 that is 0. -/
def Obligations.EmptyMessageResult : Prop :=
  (∀ s t : State, exec .configure s = .next t → t.cfgValid = true →
    regRead 0x011 t = finalized t t.aInit) ∧
  (∀ s t : State, s.cfgValid = true → exec .start s = .next t → regRead 0x011 t = finalized t t.aInit) ∧
  (∀ s : State, Crc32Active s → finalized s s.aInit = 0x00000000) ∧
  (∀ s : State, ActiveIs s 0x010 0x1021 0xFFFF 0 → finalized s s.aInit = 0xFFFF)

/-! ## The table engine -/

/-- R191: BUILD_TABLE writes TableEntry(i) into every entry and sets TABLE_VALID; ACC, AUXOUT, the
configuration and everything else but LAST_ERR are unchanged; without a configuration it raises
NOT_CONFIGURED; with POLY = 0 every entry is 0; its word is 2,
and every other word of its opcode is illegal. -/
def Obligations.BuildTableResult : Prop :=
  (∀ w : Word, decode w = some .buildTable ↔ w = 0x0000000000000002) ∧
  IllegalUnless 0x02 (· = 0x0000000000000002) ∧
  (∀ s : State, s.cfgValid = true →
    ∃ t, exec .buildTable s = .next t ∧ (∀ i : EntryIndex, memRead t.table i = tableEntry s i) ∧
      t = { s with table := t.table, tableValid := true, lastErr := 0 }) ∧
  (∀ s : State, s.cfgValid = false →
    exec .buildTable s = .next { s with lastErr := 2, errSticky := true }) ∧
  (∀ s : State, Ready s → s.tableValid = true →
    ∃ t, exec .buildTable s = .next t ∧ SameTableRam s t) ∧
  (∀ (s : State) (i : EntryIndex), Ready s → s.aPoly = 0 → tableEntry s i = 0) ∧
  (∀ s : State, Crc32Active s → s.errSticky = false →
    ∃ t, exec .buildTable s = .next t ∧ memRead t.table 0x00 = 0 ∧ memRead t.table 0x01 = 0x04C11DB7 ∧
      memRead t.table 0x02 = 0x09823B6E ∧ memRead t.table 0x80 = 0x690CE0EE ∧
      memRead t.table 0xFF = 0xB1F740B4 ∧ regRead 0x008 t = 0x003)

/-- R190, 95_test_vectors.md section 3.3: every entry is at most MASK, entry 0 is 0 and entry 1 is POLY, for
every configuration. -/
def Obligations.TableEntriesOfEveryConfiguration : Prop :=
  ∀ s : State, Ready s →
    (∀ i : EntryIndex, tableEntry s i ≤ s.mask) ∧ tableEntry s 0 = 0 ∧ tableEntry s 1 = s.aPoly

/-- R192: the table depends only on BITS and POLY; a CONFIGURE clears TABLE_VALID in any case. -/
def Obligations.TableDependsOnlyOnWidthAndPolynomial : Prop :=
  (∀ s t : State, Ready s → Ready t → s.aBits = t.aBits → s.aPoly = t.aPoly →
    ∀ i : EntryIndex, tableEntry s i = tableEntry t i) ∧
  (∀ s t : State, exec .configure s = .next t → t.tableValid = false)

/-- R194: UPDATE_FAST folds its byte into ACC with FastStep and changes nothing else but LAST_ERR; without a
configuration it raises NOT_CONFIGURED, without a table NO_TABLE; with the table of the configuration it
leaves the ACC of UPDATE_SLOW; its words are those with OPC 0x06, the byte at 15:8 and zeros elsewhere, and the other
words of that opcode are illegal. -/
def Obligations.UpdateFastResult : Prop :=
  (∀ (w : Word) (d : Byte), decode w = some (.updateFast d) ↔ w = 0x06 ||| (d.setWidth 64 <<< 8)) ∧
  IllegalUnless 0x06 (fun w => w.extractLsb' 16 7 = 0 ∧ w.extractLsb' 23 41 = 0) ∧
  (∀ (s : State) (d : Byte), s.cfgValid = true → s.tableValid = true →
    exec (.updateFast d) s = .next { s with acc := fastStep s s.acc d, lastErr := 0 }) ∧
  (∀ (s : State) (d : Byte), s.cfgValid = true → s.tableValid = false →
    exec (.updateFast d) s = .next { s with lastErr := 4, errSticky := true }) ∧
  (∀ (s : State) (d : Byte), s.cfgValid = false →
    exec (.updateFast d) s = .next { s with lastErr := 2, errSticky := true }) ∧
  (∀ (s : State) (d : Byte), Ready s → s.tableValid = true →
    exec (.updateFast d) s = exec (.updateSlow d) s) ∧
  (∀ (s : State) (d : Byte), Ready s → s.aBits = 8 →
    fastStep s s.acc d = memRead s.table ((s.acc ^^^ inputByte s d).setWidth 8)) ∧
  (∀ s : State, Ready s → Crc32Active s → s.tableValid = true → s.acc = 0xFFFFFFFF →
    inputByte s 0x31 = 0x8C ∧ lookupIndex s s.acc 0x31 = 0x73 ∧ memRead s.table 0x73 = 0xEDF73B3E ∧
    ∃ t, exec (.updateFast 0x31) s = .next t ∧ t.acc = 0x1208C43E)

/-- R195: with a built table, FastStep and SlowStep agree on every value up to MASK and every byte, and the
result is at most MASK; so any mix of UPDATE_FAST (where the flag is set) and UPDATE_SLOW commands leaves the
accumulator of the slow path alone. -/
def Obligations.FastStepEqualsSlowStep : Prop :=
  (∀ (s : State) (crc : Word) (d : Byte), Ready s → s.tableValid = true → crc ≤ s.mask →
    fastStep s crc d = slowStep s crc d ∧ fastStep s crc d ≤ s.mask) ∧
  (∀ (m : List (Bool × Byte)) (s : State) (rest : List HostAccess), Ready s → s.tableValid = true → m ≠ [] →
    s.pending = m.map (fun b => command (if b.1 then .updateFast b.2 else .updateSlow b.2)) ++ rest →
    runs m.length s { s with pending := rest, acc := accAfter s s.acc (m.map Prod.snd), lastErr := 0 })

/-- R197: a second BUILD_TABLE under the same configuration leaves the same table RAM contents and TABLE_VALID,
and changes no state but LAST_ERR; any number of them in a row leaves the state that one leaves. -/
def Obligations.BuildTableIsIdempotent : Prop :=
  (∀ s t u : State, s.cfgValid = true → SameActive s t → exec .buildTable s = .next u → SameTableRam u t →
    t.tableValid = true →
    ∃ v, exec .buildTable t = .next v ∧ SameTableRam u v ∧ v.tableValid = true ∧
      v = { t with lastErr := 0 }) ∧
  (∀ (k : Nat) (s : State) (rest : List HostAccess), s.cfgValid = true →
    s.pending = List.replicate (k + 1) (command .buildTable) ++ rest →
    ∃ t, exec .buildTable { s with pending := rest } = .next t ∧ runs (k + 1) s t)

/-- R128, R195: COMPUTE_FAST returns to the host what COMPUTE_SLOW returns, for every message. -/
def Obligations.ComputeFastReturnsSlowResult : Prop :=
  ∀ (m : List Byte) (s : State) (rest : List HostAccess), Ready s →
    s.pending = computeFast m ++ rest →
    ∃ t, runs (m.length + 3) s t ∧ t.reads = s.reads ++ [computedSlow s m] ∧ t.pending = rest ∧
      t.acc = accAfter s s.aInit m ∧ t.tableValid = true ∧ SameActive s t ∧ SameStaging s t ∧
      t.auxout = s.auxout ∧ t.errSticky = s.errSticky ∧ t.lastErr = 0

/-! ## Reflection and finalize -/

/-- R220, R221: bit i of ReflectBits(v, n) is bit n−1−i of v for i < n and 0 above; byte j of ReflectBytes(v, n)
is byte n−1−j of v for j < n, its bits in order, and 0 above; both are 0 for n = 0. -/
def Obligations.ReflectionMovesBitsAndBytes : Prop :=
  (∀ (v : Word) (n i : Nat), n ≤ 64 →
    (bitsReflected v n).getLsbD i = (decide (i < n) && v.getLsbD (n - 1 - i))) ∧
  (∀ (v : Word) (n j k : Nat), n ≤ 8 → k < 8 →
    (bytesReflected v n).getLsbD (8 * j + k) = (decide (j < n) && v.getLsbD (8 * (n - 1 - j) + k))) ∧
  (∀ v : Word, bitsReflected v 0 = 0 ∧ bytesReflected v 0 = 0)

/-- R222: each reflection is its own inverse on the bits it keeps. -/
def Obligations.ReflectionsAreInvolutions : Prop :=
  (∀ (x : Word) (n : Nat), n ≤ 64 →
    bitsReflected (bitsReflected x n) n = x &&& BitVec.ofNat 64 (2 ^ n - 1)) ∧
  (∀ (x : Word) (n : Nat), n ≤ 8 →
    bytesReflected (bytesReflected x n) n = x &&& BitVec.ofNat 64 (2 ^ (8 * n) - 1))

/-- R229: REFLECT_BITS writes AUXOUT with OPERAND's low N bits reversed and changes nothing else but LAST_ERR,
with or without a configuration; its words are those with OPC 0x09, N ≤ 64 at 22:16 and zeros elsewhere, and the
other words of that opcode are illegal. No word decodes to the command with N > 64; that exec of it raises ILLEGAL is
the model's choice (log 8, DEDUCED). -/
def Obligations.ReflectBitsResult : Prop :=
  (∀ (w : Word) (n : BitVec 7), decode w = some (.reflectBits n) ↔
    n.toNat ≤ 64 ∧ w = 0x09 ||| (n.setWidth 64 <<< 16)) ∧
  IllegalUnless 0x09 (fun w =>
    w.extractLsb' 8 8 = 0 ∧ (w.extractLsb' 16 7).toNat ≤ 64 ∧ w.extractLsb' 23 41 = 0) ∧
  (∀ (s : State) (n : BitVec 7), n.toNat ≤ 64 →
    ∃ t, exec (.reflectBits n) s = .next t ∧ t = { s with auxout := t.auxout, lastErr := 0 } ∧
      ∀ i, t.auxout.getLsbD i = (decide (i < n.toNat) && s.operand.getLsbD (n.toNat - 1 - i))) ∧
  (∀ (s : State) (n : BitVec 7), 64 < n.toNat →
    exec (.reflectBits n) s = .next { s with lastErr := 1, errSticky := true }) ∧
  (∀ s : State, s.operand = 0x12345678 →
    ∃ t, exec (.reflectBits 32) s = .next t ∧ t.auxout = 0x1E6A2C48)

/-- R230: REFLECT_BYTES writes AUXOUT with OPERAND's low N bytes reversed and changes nothing else but LAST_ERR,
with or without a configuration; its words are those with OPC 0x0A, N ≤ 8 at 22:16 and zeros elsewhere, and the
other words of that opcode are illegal. No word decodes to the command with N > 8; that exec of it raises ILLEGAL is
the model's choice (log 8, DEDUCED). -/
def Obligations.ReflectBytesResult : Prop :=
  (∀ (w : Word) (n : BitVec 7), decode w = some (.reflectBytes n) ↔
    n.toNat ≤ 8 ∧ w = 0x0A ||| (n.setWidth 64 <<< 16)) ∧
  IllegalUnless 0x0A (fun w =>
    w.extractLsb' 8 8 = 0 ∧ (w.extractLsb' 16 7).toNat ≤ 8 ∧ w.extractLsb' 23 41 = 0) ∧
  (∀ (s : State) (n : BitVec 7), n.toNat ≤ 8 →
    ∃ t, exec (.reflectBytes n) s = .next t ∧ t = { s with auxout := t.auxout, lastErr := 0 } ∧
      ∀ j, t.auxout.extractLsb' (8 * j) 8 =
        if j < n.toNat then s.operand.extractLsb' (8 * (n.toNat - 1 - j)) 8 else 0) ∧
  (∀ (s : State) (n : BitVec 7), 8 < n.toNat →
    exec (.reflectBytes n) s = .next { s with lastErr := 1, errSticky := true }) ∧
  (∀ s : State, s.operand = 0x12345678 →
    ∃ t, exec (.reflectBytes 4) s = .next t ∧ t.auxout = 0x78563412) ∧
  (∀ s : State, s.operand = 0x123456 →
    ∃ t, exec (.reflectBytes 2) s = .next t ∧ t.auxout = 0x5634)

/-- R226: Unfinalize and Finalize are each other's inverse on values up to MASK. -/
def Obligations.FinalizeRoundTrip : Prop :=
  ∀ (s : State) (x : Word), Ready s → x ≤ s.mask →
    unfinalized s (finalized s x) = x ∧ finalized s (unfinalized s x) = x

/-- R227: Finalize and Unfinalize keep a value at most MASK, so RESULT is at most MASK. -/
def Obligations.FinalizeStaysInRange : Prop :=
  ∀ s : State, Ready s →
    (∀ x : Word, x ≤ s.mask → finalized s x ≤ s.mask ∧ unfinalized s x ≤ s.mask) ∧
    regRead 0x011 s ≤ s.mask

/-- R231: FINALIZE_OP writes AUXOUT with Finalize(OPERAND) and changes nothing else but LAST_ERR; OPERAND > MASK
raises OPERAND_RANGE, no configuration NOT_CONFIGURED; without reflections and with XOROUT = 0 it copies
OPERAND; its word is 7,
and every other word of its opcode is illegal. -/
def Obligations.FinalizeOpResult : Prop :=
  (∀ w : Word, decode w = some .finalizeOp ↔ w = 0x0000000000000007) ∧
  IllegalUnless 0x07 (· = 0x0000000000000007) ∧
  (∀ s : State, s.cfgValid = true → s.operand ≤ s.mask →
    exec .finalizeOp s = .next { s with auxout := finalized s s.operand, lastErr := 0 }) ∧
  (∀ s : State, s.cfgValid = true → s.mask < s.operand →
    exec .finalizeOp s = .next { s with lastErr := 5, errSticky := true }) ∧
  (∀ s : State, s.cfgValid = false →
    exec .finalizeOp s = .next { s with lastErr := 2, errSticky := true }) ∧
  (∀ s : State, s.aRefoutBits = false → s.aRefoutBytes = false → s.aXorout = 0 →
    finalized s s.operand = s.operand) ∧
  (∀ s : State, Crc32Active s → s.operand = 0x9B63D02C →
    ∃ t, exec .finalizeOp s = .next t ∧ t.auxout = 0xCBF43926)

/-- R232: UNFINALIZE_OP writes AUXOUT with Unfinalize(OPERAND), the value RESUME would load into ACC, and changes
nothing else but LAST_ERR; OPERAND > MASK raises OPERAND_RANGE, no configuration NOT_CONFIGURED; its word is 8,
and every other word of its opcode is illegal. -/
def Obligations.UnfinalizeOpResult : Prop :=
  (∀ w : Word, decode w = some .unfinalizeOp ↔ w = 0x0000000000000008) ∧
  IllegalUnless 0x08 (· = 0x0000000000000008) ∧
  (∀ s : State, s.cfgValid = true → s.operand ≤ s.mask →
    exec .unfinalizeOp s = .next { s with auxout := unfinalized s s.operand, lastErr := 0 }) ∧
  (∀ s : State, s.cfgValid = true → s.mask < s.operand →
    exec .unfinalizeOp s = .next { s with lastErr := 5, errSticky := true }) ∧
  (∀ s : State, s.cfgValid = false →
    exec .unfinalizeOp s = .next { s with lastErr := 2, errSticky := true }) ∧
  (∀ s t u : State, s.cfgValid = true → s.operand ≤ s.mask →
    exec .unfinalizeOp s = .next t → exec .resume s = .next u → t.auxout = u.acc) ∧
  (∀ s : State, DnpActive s → s.operand = 0x82EA →
    ∃ t, exec .unfinalizeOp s = .next t ∧ t.auxout = 0xBEA8)

/-! ## Errors -/

/-- R250, R254, R255: a word written to CMD reports ILLEGAL exactly if it does not decode; else NOT_CONFIGURED,
BAD_CONFIG, NO_TABLE or OPERAND_RANGE exactly under the command's own conditions, in the order of priority;
else OK. -/
def Obligations.ReportedCodeFollowsPriority : Prop :=
  ∀ (w : Word) (s : State), ∃ t, executeWord w s = .next t ∧
    (t.lastErr = 1 ↔ decode w = none) ∧
    (t.lastErr = 2 ↔ ∃ i, decode w = some i ∧ NeedsConfig i ∧ s.cfgValid = false) ∧
    (t.lastErr = 3 ↔ decode w = some .configure ∧ ¬ StagingLegal s) ∧
    (t.lastErr = 4 ↔ ∃ d, decode w = some (.updateFast d) ∧ s.cfgValid = true ∧ s.tableValid = false) ∧
    (t.lastErr = 5 ↔ ∃ i, decode w = some i ∧ NeedsOperandInRange i ∧ s.cfgValid = true ∧
      s.mask < s.operand) ∧
    t.lastErr.toNat ≤ 5

/-- R252, R256: a command that reports an error has changed nothing but LAST_ERR and ERR_STICKY, except that a
failed CONFIGURE has first deconfigured the block. -/
def Obligations.ErrorChangesOnlyTheRecord : Prop :=
  ∀ (w : Word) (s t : State), executeWord w s = .next t → t.lastErr ≠ 0 →
    t.errSticky = true ∧
    (t = { s with lastErr := t.lastErr, errSticky := true } ∨
      (decode w = some .configure ∧ t.lastErr = 3 ∧
        t = { s.deconfigured with lastErr := 3, errSticky := true }))

/-- R253: every access of the host but an inadmissible bus access is taken, and the accesses after it stay to
come: an error does not stop the block. What a command does depends on no earlier error. That the accesses after the
reset event stay to come is the model's choice (log 5, DESIGN CHOICE). -/
def Obligations.ErrorsNeverStopTheBlock : Prop :=
  (∀ (s : State) (a : HostAccess),
    (∀ addr size, a = .busRead addr size → busIndex addr size ≠ none) →
    (∀ addr size v, a = .busWrite addr size v → busIndex addr size ≠ none) →
    ∃ t, hostStep a s = .next t ∧ t.pending = s.pending) ∧
  (∀ (w : Word) (s t : State) (e : BitVec 4) (b : Bool), executeWord w s = .next t →
    ∃ t', executeWord w { s with lastErr := e, errSticky := b } = .next t' ∧ t'.lastErr = t.lastErr ∧
      { t' with errSticky := t.errSticky } = t)

/-- R289: if ERR_STICKY is 0 at the end of a run whose accesses hold no reset and no CLEAR_ERR, then it was 0
at every point of the run, and no command of the run reported an error. -/
def Obligations.ClearStickyShowsNoFailure : Prop :=
  ∀ (k : Nat) (s t : State), StateInv s → (∀ a ∈ s.pending, KeepsErrorRecord a) → runs k s t →
    t.errSticky = false →
    ∀ j u, j ≤ k → runs j s u → u.errSticky = false ∧ u.lastErr = 0

/-! ## What each command leaves unchanged -/

/-- The commands that write ACC and no configuration leave staging, OPERAND, the active configuration, AUXOUT,
TABLE_VALID and every table entry as they were; ERR_STICKY is kept on OK and set on an error. -/
def Obligations.AccCommandsFrame : Prop :=
  ∀ (i : Instr) (s t : State), WritesAcc i → i ≠ .configure → exec i s = .next t →
    SameStaging s t ∧ SameActive s t ∧ SameTableRam s t ∧ t.tableValid = s.tableValid ∧
    t.auxout = s.auxout ∧ SameHost s t ∧
    (t.lastErr = 0 → t.errSticky = s.errSticky) ∧
    (t.lastErr ≠ 0 → t.errSticky = true ∧ t.acc = s.acc)

/-- The commands that write AUXOUT leave staging, OPERAND, the active configuration, ACC, TABLE_VALID and every
table entry as they were; ERR_STICKY is kept on OK and set on an error. -/
def Obligations.AuxoutCommandsFrame : Prop :=
  ∀ (i : Instr) (s t : State), WritesAuxout i → exec i s = .next t →
    SameStaging s t ∧ SameActive s t ∧ SameTableRam s t ∧ t.tableValid = s.tableValid ∧
    t.acc = s.acc ∧ SameHost s t ∧
    (t.lastErr = 0 → t.errSticky = s.errSticky) ∧
    (t.lastErr ≠ 0 → t.errSticky = true ∧ t.auxout = s.auxout)

/-- NOP, CLEAR_ERR, BUILD_TABLE and CONFIGURE leave staging, OPERAND and AUXOUT as they were. NOP and CLEAR_ERR
change only the error record. BUILD_TABLE changes no ACC and no configuration, and no table entry when it
reports an error. CONFIGURE changes no table entry. -/
def Obligations.OtherCommandsFrame : Prop :=
  ∀ s t : State,
    ((exec .nop s = .next t ∨ exec .clearErr s = .next t) →
      SameStaging s t ∧ SameActive s t ∧ SameTableRam s t ∧ t.tableValid = s.tableValid ∧
      t.acc = s.acc ∧ t.auxout = s.auxout ∧ SameHost s t) ∧
    (exec .nop s = .next t → t.errSticky = s.errSticky) ∧
    (exec .buildTable s = .next t →
      SameStaging s t ∧ SameActive s t ∧ t.acc = s.acc ∧ t.auxout = s.auxout ∧ SameHost s t ∧
      (t.lastErr = 0 → t.errSticky = s.errSticky) ∧
      (t.lastErr ≠ 0 → t.errSticky = true ∧ t.tableValid = s.tableValid ∧ SameTableRam s t)) ∧
    (exec .configure s = .next t →
      SameStaging s t ∧ SameTableRam s t ∧ t.auxout = s.auxout ∧ SameHost s t ∧
      (t.lastErr = 0 → t.errSticky = s.errSticky) ∧ (t.lastErr ≠ 0 → t.errSticky = true))

/-! ## Rules of the whole machine -/

/-- R35, R36, R37, R51, R250: the invariant holds right after reset. -/
def Obligations.ResetMeetsStateInv : Prop := StateInv State.reset

/-- R35, R36, R37, R51, R250: every step from a state with the invariant leaves a state with it. -/
def Obligations.StepKeepsStateInv : Prop :=
  ∀ s t : State, StateInv s → step s = .next t → StateInv t

/-- R37: the host reads ACC at 0x010 and cannot write it; an access that changes ACC runs CONFIGURE, START,
RESUME, UPDATE_SLOW or UPDATE_FAST, or is the reset event, after which ACC is 0; every access keeps ACC ≤ MASK,
and ACC is 0 without a configuration. -/
def Obligations.OnlyListedCommandsWriteAcc : Prop :=
  (∀ s : State, regRead 0x010 s = s.acc ∧ ∀ v : Word, regWrite 0x010 v s = .next s) ∧
  (∀ (a : HostAccess) (s t : State), hostStep a s = .next t → t.acc ≠ s.acc →
    Carries a WritesAcc ∨ a = .reset) ∧
  (∀ s t : State, hostStep .reset s = .next t → t.acc = 0) ∧
  (∀ (a : HostAccess) (s t : State), StateInv s → hostStep a s = .next t →
    t.acc ≤ t.mask ∧ (t.cfgValid = false → t.acc = 0))

/-- R34, R36: an access that is neither a CONFIGURE command nor the reset event leaves CFG_VALID, the active
configuration and the derived registers as they were, and after every access MASK, TOPBIT and NBYTES are the
derived values of A.BITS. -/
def Obligations.OnlyConfigureAndResetWriteConfiguration : Prop :=
  (∀ (a : HostAccess) (s t : State), hostStep a s = .next t → ¬ Carries a (· = .configure) → a ≠ .reset →
    SameActive s t) ∧
  (∀ (a : HostAccess) (s t : State), StateInv s → hostStep a s = .next t → DerivedAgree t)

/-- R42: what sets and what clears each flag. -/
def Obligations.FlagWriters : Prop :=
  ∀ (a : HostAccess) (s t : State), hostStep a s = .next t →
    (s.cfgValid = false → t.cfgValid = true → Carries a (· = .configure) ∧ t.lastErr = 0) ∧
    (s.cfgValid = true → t.cfgValid = false →
      (Carries a (· = .configure) ∧ t.lastErr = 3) ∨ a = .reset) ∧
    (s.tableValid = false → t.tableValid = true → Carries a (· = .buildTable) ∧ t.lastErr = 0) ∧
    (s.tableValid = true → t.tableValid = false → Carries a (· = .configure) ∨ a = .reset) ∧
    (Carries a (· = .configure) → t.tableValid = false) ∧
    (s.errSticky = false → t.errSticky = true → t.lastErr ≠ 0) ∧
    (s.errSticky = true → t.errSticky = false → Carries a (· = .clearErr) ∨ a = .reset) ∧
    (commandOf a = none → a ≠ .reset → t.lastErr = s.lastErr)

/-- R50, R52, U9: what the table RAM holds while TABLE_VALID is 0 is not observable. Two states that differ only
in it stay so under every step, and the host reads the same values. -/
def Obligations.UnbuiltTableIsNotObservable : Prop :=
  ∀ s s' : State, SameVisible s s' →
    (∀ i : RegIndex, regRead i s = regRead i s') ∧
    (∀ t, step s = .next t → ∃ t', step s' = .next t' ∧ SameVisible t t') ∧
    (∀ r, step s = .refused r → step s' = .refused r)

/-- R34, R52, R284: the staging registers do not affect any command but CONFIGURE. -/
def Obligations.StagingIsInertUntilConfigure : Prop :=
  ∀ (w : Word) (s t : State) (c : BitVec 11) (p n x : Word), decode w ≠ some .configure →
    executeWord w s = .next t →
    executeWord w { s with stgCfg := c, stgPoly := p, stgInit := n, stgXorout := x } =
      .next { t with stgCfg := c, stgPoly := p, stgInit := n, stgXorout := x }

/-- R123, R141, R283: SETCFG with legal values, from any state, configures the block in five accesses. -/
def Obligations.SetcfgConfiguresTheBlock : Prop :=
  ∀ (s : State) (rest : List HostAccess) (bits : BitVec 6) (poly init xorout : Word) (ri rb ry : Bool),
    8 ≤ bits.toNat → poly.toNat < 2 ^ bits.toNat → init.toNat < 2 ^ bits.toNat →
    xorout.toNat < 2 ^ bits.toNat → (ry = true → bits.toNat % 8 = 0) →
    s.pending = setcfg (bits.setWidth 64) poly init xorout ((BitVec.ofBool ri).setWidth 64)
      ((BitVec.ofBool rb).setWidth 64) ((BitVec.ofBool ry).setWidth 64) ++ rest →
    ∃ t, runs 5 s t ∧ t.cfgValid = true ∧ t.aBits = bits ∧ t.aPoly = poly ∧ t.aInit = init ∧
      t.aXorout = xorout ∧ t.aRefin = ri ∧ t.aRefoutBits = rb ∧ t.aRefoutBytes = ry ∧ t.acc = init ∧
      t.tableValid = false ∧ t.lastErr = 0 ∧ t.errSticky = s.errSticky ∧ t.pending = rest ∧
      t.reads = s.reads
end

