-- ==== Sys2Proof/Laws/Word.lean ====
section
/-! SUPPORT. The bits and the order of masks: a value is at most `2^n − 1` exactly if its bits from `n` on are 0. -/

namespace Sys2Proof.Machine

theorem lowMask_toNat {n : Nat} (h : n ≤ 64) : (lowMask n).toNat = 2 ^ n - 1 := by
  have h1 : 2 ^ n ≤ 2 ^ 64 := Nat.pow_le_pow_right (by decide) h
  have h2 : 0 < 2 ^ n := Nat.two_pow_pos n
  simp only [lowMask, BitVec.toNat_ofNat]
  exact Nat.mod_eq_of_lt (by omega)

theorem getLsbD_lowMask {n : Nat} (h : n ≤ 64) (i : Nat) :
    (lowMask n).getLsbD i = decide (i < n) := by
  rw [BitVec.getLsbD, lowMask_toNat h, Nat.testBit_two_pow_sub_one]

/-- The order of R35 and R37 in bits. -/
theorem le_lowMask_iff {n : Nat} (h : n ≤ 64) (x : Word) :
    x ≤ lowMask n ↔ ∀ i, n ≤ i → x.getLsbD i = false := by
  rw [BitVec.le_def, lowMask_toNat h]
  have hpos : 0 < 2 ^ n := Nat.two_pow_pos n
  constructor
  · intro hx i hi
    exact Nat.testBit_lt_two_pow (lt_of_lt_of_le (by omega) (Nat.pow_le_pow_right (by decide) hi))
  · intro hx
    have : x.toNat < 2 ^ n := Nat.lt_pow_two_of_testBit _ fun i hi => hx i hi
    omega

theorem getLsbD_twoPow64 {k : Nat} (h : k < 64) (i : Nat) :
    (BitVec.ofNat 64 (2 ^ k)).getLsbD i = decide (i = k) := by
  have h1 : 2 ^ k < 2 ^ 64 := Nat.pow_lt_pow_right (by decide) h
  rw [BitVec.getLsbD, BitVec.toNat_ofNat, Nat.mod_eq_of_lt h1, Nat.testBit_two_pow]
  exact decide_eq_decide.mpr eq_comm

theorem getLsbD_topbitOf (b : BitVec 6) (i : Nat) :
    (topbitOf b).getLsbD i = decide (i = b.toNat - 1) :=
  getLsbD_twoPow64 (by have := b.isLt; omega) i

/-- A word with one bit set meets another word in that bit alone. -/
theorem and_twoPow64_ne_zero_iff {k : Nat} (h : k < 64) (x t : Word)
    (ht : ∀ i, t.getLsbD i = decide (i = k)) : x &&& t ≠ 0 ↔ x.getLsbD k = true := by
  constructor
  · intro hne
    by_contra hk
    apply hne
    apply BitVec.eq_of_getLsbD_eq
    intro i _
    by_cases hik : i = k
    · subst hik; simp [Bool.eq_false_iff.mpr hk]
    · simp [ht, hik]
  · intro hk h0
    have := congrArg (fun w : Word => w.getLsbD k) h0
    simp [ht, hk] at this

end Sys2Proof.Machine
end

