-- ==== Sys2Proof/Laws/Bitwise.lean ====
section
/-! SUPPORT. One round of the division: it depends on MASK, TOPBIT and POLY only, keeps a value in range, and is
linear over exclusive-or. `k` rounds do the same. -/

namespace Sys2Proof.Machine

/-- The division reads three registers of the state and nothing else (R192). -/
theorem divRounds_congr {s t : State} (hm : s.mask = t.mask) (hb : s.topbit = t.topbit)
    (hp : s.aPoly = t.aPoly) : ∀ k crc, divRounds s k crc = divRounds t k crc
  | 0, _ => rfl
  | k + 1, crc => by
    have : divRound s crc = divRound t crc := by simp [divRound, hm, hb, hp]
    rw [divRounds, divRounds, this, divRounds_congr hm hb hp k]

/-- One round's result, whichever way the top bit is, is at most MASK if POLY is. -/
theorem divRound_le {s : State} {n : Nat} (hn : n ≤ 64) (hm : s.mask = lowMask n)
    (hp : s.aPoly ≤ s.mask) (crc : Word) : divRound s crc ≤ s.mask := by
  rw [hm] at hp ⊢
  rw [le_lowMask_iff hn] at hp ⊢
  intro i hi
  have hmask : (lowMask n).getLsbD i = false := by simp [getLsbD_lowMask hn, Nat.not_lt.mpr hi]
  unfold divRound
  split <;> simp [hm, hmask, hp i hi]

/-- One round is linear: the top bit of an exclusive-or is the exclusive-or of the top bits (R175). -/
theorem divRound_xor {s : State} {k : Nat} (hk : k < 64)
    (ht : ∀ i, s.topbit.getLsbD i = decide (i = k)) (a b : Word) :
    divRound s (a ^^^ b) = divRound s a ^^^ divRound s b := by
  have hshift : (a ^^^ b) <<< 1 &&& s.mask = (a <<< 1 &&& s.mask) ^^^ (b <<< 1 &&& s.mask) := by
    rw [BitVec.shiftLeft_xor_distrib, BitVec.and_comm, BitVec.and_comm (a <<< 1), BitVec.and_comm (b <<< 1)]
    ext i hi
    simp only [BitVec.getElem_and, BitVec.getElem_xor]
    cases s.mask[i] <;> simp
  unfold divRound
  simp only [and_twoPow64_ne_zero_iff hk _ _ ht, BitVec.getLsbD_xor, hshift]
  generalize a <<< 1 &&& s.mask = x
  generalize b <<< 1 &&& s.mask = y
  cases a.getLsbD k <;> cases b.getLsbD k <;> simp <;> ext i hi <;>
    simp only [BitVec.getElem_xor] <;> cases x[i] <;> cases y[i] <;> cases s.aPoly[i] <;> rfl

theorem divRounds_le {s : State} {n : Nat} (hn : n ≤ 64) (hm : s.mask = lowMask n)
    (hp : s.aPoly ≤ s.mask) : ∀ k crc, crc ≤ s.mask → divRounds s k crc ≤ s.mask
  | 0, _, h => h
  | k + 1, crc, _ => divRounds_le hn hm hp k _ (divRound_le hn hm hp crc)

theorem divRounds_xor {s : State} {m : Nat} (hm : m < 64)
    (ht : ∀ i, s.topbit.getLsbD i = decide (i = m)) :
    ∀ k a b, divRounds s k (a ^^^ b) = divRounds s k a ^^^ divRounds s k b
  | 0, _, _ => rfl
  | k + 1, a, b => by
    rw [divRounds, divRound_xor hm ht, divRounds_xor hm ht k]
    rfl

/-- A round on a value whose top bit is clear is the masked shift (R195 step 3). -/
theorem divRound_of_top_clear {s : State} {m : Nat} (hm : m < 64)
    (ht : ∀ i, s.topbit.getLsbD i = decide (i = m)) {crc : Word} (h : crc.getLsbD m = false) :
    divRound s crc = crc <<< 1 &&& s.mask := by
  unfold divRound
  rw [if_neg]
  rw [and_twoPow64_ne_zero_iff hm _ _ ht]
  simp [h]

end Sys2Proof.Machine
end

