-- ==== Sys2Proof/Laws/Decode.lean ====
section
/-! SUPPORT. The fields of the assembled word, and the word of its fields: `assembleWord` and the four field
readers are inverse to each other on words whose RSV is 0 (R111, R121). -/

namespace Sys2Proof

@[simp] theorem opcOf_assembleWord (o d : Byte) (n : BitVec 7) : opcOf (assembleWord o d n) = o := by
  apply BitVec.eq_of_getLsbD_eq
  intro i hi
  have h1 : i < 64 := by omega
  have h2 : i < 16 := by omega
  simp [opcOf, assembleWord, hi, h1, h2]

@[simp] theorem dataOf_assembleWord (o d : Byte) (n : BitVec 7) : dataOf (assembleWord o d n) = d := by
  apply BitVec.eq_of_getLsbD_eq
  intro i hi
  have h1 : 8 + i < 64 := by omega
  have h2 : 8 + i < 16 := by omega
  simp [dataOf, assembleWord, hi, h1, h2]

@[simp] theorem nOf_assembleWord (o d : Byte) (n : BitVec 7) : nOf (assembleWord o d n) = n := by
  apply BitVec.eq_of_getLsbD_eq
  intro i hi
  have h1 : 16 + i < 64 := by omega
  have h2 : o.getLsbD (16 + i) = false := BitVec.getLsbD_of_ge _ _ (by omega)
  have h3 : d.getLsbD (16 + i - 8) = false := BitVec.getLsbD_of_ge _ _ (by omega)
  have h4 : ¬ 16 + i < 8 := by omega
  simp [nOf, assembleWord, hi, h1, h2, h3, h4]

@[simp] theorem rsvOf_assembleWord (o d : Byte) (n : BitVec 7) : rsvOf (assembleWord o d n) = 0 := by
  apply BitVec.eq_of_getLsbD_eq
  intro i _
  have h1 : o.getLsbD (23 + i) = false := BitVec.getLsbD_of_ge _ _ (by omega)
  have h2 : d.getLsbD (23 + i - 8) = false := BitVec.getLsbD_of_ge _ _ (by omega)
  have h3 : n.getLsbD (23 + i - 16) = false := BitVec.getLsbD_of_ge _ _ (by omega)
  simp [rsvOf, assembleWord, h1, h2, h3]

/-- A word with RSV 0 is the word assembled from its three other fields. -/
theorem assembleWord_fields {w : Word} (h : rsvOf w = 0) :
    assembleWord (opcOf w) (dataOf w) (nOf w) = w := by
  apply BitVec.eq_of_getLsbD_eq
  intro i hi
  by_cases h1 : i < 8
  · simp [assembleWord, opcOf, h1, hi, (by omega : i < 16)]
  by_cases h2 : i < 16
  · obtain ⟨k, rfl⟩ : ∃ k, i = 8 + k := ⟨i - 8, by omega⟩
    have hk : k < 8 := by omega
    simp [assembleWord, opcOf, dataOf, h2, hi, hk]
  by_cases h3 : i < 23
  · obtain ⟨k, rfl⟩ : ∃ k, i = 16 + k := ⟨i - 16, by omega⟩
    have hk : k < 7 := by omega
    have hk8 : ¬ 16 + k - 8 < 8 := by omega
    have hk9 : ¬ 16 + k < 8 := by omega
    simp [assembleWord, opcOf, dataOf, nOf, hi, hk, hk8, hk9]
  · obtain ⟨k, rfl⟩ : ∃ k, i = 23 + k := ⟨i - 23, by omega⟩
    have hr : w.getLsbD (23 + k) = false := by
      have := congrArg (fun x : BitVec 41 => x.getLsbD k) h
      simpa [rsvOf, (by omega : k < 41)] using this
    have hk7 : ¬ 23 + k - 16 < 7 := by omega
    have hk8 : ¬ 23 + k - 8 < 8 := by omega
    have hk9 : ¬ 23 + k < 8 := by omega
    rw [hr]
    simp only [assembleWord, opcOf, dataOf, nOf, BitVec.getLsbD_or, BitVec.getLsbD_setWidth,
      BitVec.getLsbD_shiftLeft, BitVec.getLsbD_extractLsb', hk7, hk8, hk9, decide_false]
    simp

/-- An opcode named by its number. -/
theorem opcOf_eq_of_toNat {w : Word} {k : Nat} (hk : k < 256) (h : (opcOf w).toNat = k) :
    opcOf w = BitVec.ofNat 8 k :=
  BitVec.eq_of_toNat_eq (by rw [h, BitVec.toNat_ofNat]; omega)

end Sys2Proof
end

