-- ==== Sys2Proof/Laws/Ops.lean ====
section
/-! SUPPORT. What the shared operations do: the table RAM's reads after writes, the two outcomes, the checks. -/

namespace Sys2Proof.Machine

theorem memRead_memWrite_same (t : TableRam) (i : EntryIndex) (v : Word) :
    memRead (memWrite t i v) i = v := by
  simp [memRead, memWrite]

theorem memRead_memWrite_other (t : TableRam) {i j : EntryIndex} (v : Word) (h : i ≠ j) :
    memRead (memWrite t i v) j = memRead t j := by
  have : i.toNat ≠ j.toNat := fun e => h (BitVec.eq_of_toNat_eq e)
  simp [memRead, memWrite, this]

/-- After `n` rounds of BUILD_TABLE's loop the entries below `n` are written and the others are as they were. -/
theorem memRead_fillTable (e : EntryIndex → Word) (t : TableRam) (i : EntryIndex) :
    ∀ n, n ≤ 256 → memRead (fillTable e n t) i = if i.toNat < n then e i else memRead t i
  | 0, _ => by simp [fillTable]
  | n + 1, h => by
    have ih := memRead_fillTable e t i n (by omega)
    have hn : (BitVec.ofNat 8 n).toNat = n := by simp; omega
    by_cases hi : BitVec.ofNat 8 n = i
    · have hin : i.toNat = n := by rw [← hi]; exact hn
      rw [fillTable, hi, memRead_memWrite_same]
      simp [hin]
    · have hin : i.toNat ≠ n := fun e => hi (BitVec.eq_of_toNat_eq (by omega))
      rw [fillTable, memRead_memWrite_other _ _ hi, ih]
      have : i.toNat < n + 1 ↔ i.toNat < n := by omega
      simp [this]

/-- Table RAMs that read the same everywhere are the same. -/
theorem tableRam_ext {t u : TableRam} (h : ∀ i : EntryIndex, memRead t i = memRead u i) : t = u := by
  apply Vector.ext
  intro k hk
  have := h (BitVec.ofNat 8 k)
  have hm : k % 256 = k := Nat.mod_eq_of_lt hk
  simpa [memRead, hm] using this

@[simp] theorem ok_eq (s : State) : ok s = .next s.succeeded := rfl

@[simp] theorem raiseError_eq (e : OutcomeCode) (s : State) : raiseError e s = .next (s.failed e) := rfl

theorem needConfigured_of {s : State} (h : s.cfgValid = true) (r : Result) : needConfigured s r = r := by
  simp [needConfigured, h]

theorem needConfigured_absent {s : State} (h : s.cfgValid = false) (r : Result) :
    needConfigured s r = .next (s.failed .notConfigured) := by
  simp [needConfigured, h]

theorem needTable_of {s : State} (h : s.tableValid = true) (r : Result) : needTable s r = r := by
  simp [needTable, h]

theorem needTable_absent {s : State} (h : s.tableValid = false) (r : Result) :
    needTable s r = .next (s.failed .noTable) := by
  simp [needTable, h]

theorem needOperandInRange_of {s : State} (h : s.operand ≤ s.mask) (r : Result) :
    needOperandInRange s r = r := by
  simp [needOperandInRange, h]

theorem needOperandInRange_above {s : State} (h : s.mask < s.operand) (r : Result) :
    needOperandInRange s r = .next (s.failed .operandRange) := by
  have : ¬ s.operand ≤ s.mask := by rw [BitVec.not_le]; exact h
  simp [needOperandInRange, this]

end Sys2Proof.Machine
end

