-- ==== Sys2Proof/Laws/State.lean ====
section
/-! SUPPORT. What every update of State leaves in every field: one lemma per field per update, so that no later
proof unfolds a record update. -/

namespace Sys2Proof.Machine

variable (s : State)

@[simp] theorem State.succeeded_stgCfg : s.succeeded.stgCfg = s.stgCfg := rfl
@[simp] theorem State.succeeded_stgPoly : s.succeeded.stgPoly = s.stgPoly := rfl
@[simp] theorem State.succeeded_stgInit : s.succeeded.stgInit = s.stgInit := rfl
@[simp] theorem State.succeeded_stgXorout : s.succeeded.stgXorout = s.stgXorout := rfl
@[simp] theorem State.succeeded_operand : s.succeeded.operand = s.operand := rfl
@[simp] theorem State.succeeded_cfgValid : s.succeeded.cfgValid = s.cfgValid := rfl
@[simp] theorem State.succeeded_aBits : s.succeeded.aBits = s.aBits := rfl
@[simp] theorem State.succeeded_aRefin : s.succeeded.aRefin = s.aRefin := rfl
@[simp] theorem State.succeeded_aRefoutBits : s.succeeded.aRefoutBits = s.aRefoutBits := rfl
@[simp] theorem State.succeeded_aRefoutBytes : s.succeeded.aRefoutBytes = s.aRefoutBytes := rfl
@[simp] theorem State.succeeded_aPoly : s.succeeded.aPoly = s.aPoly := rfl
@[simp] theorem State.succeeded_aInit : s.succeeded.aInit = s.aInit := rfl
@[simp] theorem State.succeeded_aXorout : s.succeeded.aXorout = s.aXorout := rfl
@[simp] theorem State.succeeded_mask : s.succeeded.mask = s.mask := rfl
@[simp] theorem State.succeeded_topbit : s.succeeded.topbit = s.topbit := rfl
@[simp] theorem State.succeeded_nbytes : s.succeeded.nbytes = s.nbytes := rfl
@[simp] theorem State.succeeded_acc : s.succeeded.acc = s.acc := rfl
@[simp] theorem State.succeeded_auxout : s.succeeded.auxout = s.auxout := rfl
@[simp] theorem State.succeeded_table : s.succeeded.table = s.table := rfl
@[simp] theorem State.succeeded_tableValid : s.succeeded.tableValid = s.tableValid := rfl
@[simp] theorem State.succeeded_errSticky : s.succeeded.errSticky = s.errSticky := rfl
@[simp] theorem State.succeeded_lastErr : s.succeeded.lastErr = 0 := rfl
@[simp] theorem State.succeeded_pending : s.succeeded.pending = s.pending := rfl
@[simp] theorem State.succeeded_reads : s.succeeded.reads = s.reads := rfl
@[simp] theorem State.succeeded_draws : s.succeeded.draws = s.draws := rfl

@[simp] theorem State.failed_stgCfg (e : OutcomeCode) : (s.failed e).stgCfg = s.stgCfg := rfl
@[simp] theorem State.failed_stgPoly (e : OutcomeCode) : (s.failed e).stgPoly = s.stgPoly := rfl
@[simp] theorem State.failed_stgInit (e : OutcomeCode) : (s.failed e).stgInit = s.stgInit := rfl
@[simp] theorem State.failed_stgXorout (e : OutcomeCode) : (s.failed e).stgXorout = s.stgXorout := rfl
@[simp] theorem State.failed_operand (e : OutcomeCode) : (s.failed e).operand = s.operand := rfl
@[simp] theorem State.failed_cfgValid (e : OutcomeCode) : (s.failed e).cfgValid = s.cfgValid := rfl
@[simp] theorem State.failed_aBits (e : OutcomeCode) : (s.failed e).aBits = s.aBits := rfl
@[simp] theorem State.failed_aRefin (e : OutcomeCode) : (s.failed e).aRefin = s.aRefin := rfl
@[simp] theorem State.failed_aRefoutBits (e : OutcomeCode) : (s.failed e).aRefoutBits = s.aRefoutBits := rfl
@[simp] theorem State.failed_aRefoutBytes (e : OutcomeCode) : (s.failed e).aRefoutBytes = s.aRefoutBytes := rfl
@[simp] theorem State.failed_aPoly (e : OutcomeCode) : (s.failed e).aPoly = s.aPoly := rfl
@[simp] theorem State.failed_aInit (e : OutcomeCode) : (s.failed e).aInit = s.aInit := rfl
@[simp] theorem State.failed_aXorout (e : OutcomeCode) : (s.failed e).aXorout = s.aXorout := rfl
@[simp] theorem State.failed_mask (e : OutcomeCode) : (s.failed e).mask = s.mask := rfl
@[simp] theorem State.failed_topbit (e : OutcomeCode) : (s.failed e).topbit = s.topbit := rfl
@[simp] theorem State.failed_nbytes (e : OutcomeCode) : (s.failed e).nbytes = s.nbytes := rfl
@[simp] theorem State.failed_acc (e : OutcomeCode) : (s.failed e).acc = s.acc := rfl
@[simp] theorem State.failed_auxout (e : OutcomeCode) : (s.failed e).auxout = s.auxout := rfl
@[simp] theorem State.failed_table (e : OutcomeCode) : (s.failed e).table = s.table := rfl
@[simp] theorem State.failed_tableValid (e : OutcomeCode) : (s.failed e).tableValid = s.tableValid := rfl
@[simp] theorem State.failed_errSticky (e : OutcomeCode) : (s.failed e).errSticky = true := rfl
@[simp] theorem State.failed_lastErr (e : OutcomeCode) : (s.failed e).lastErr = e.code := rfl
@[simp] theorem State.failed_pending (e : OutcomeCode) : (s.failed e).pending = s.pending := rfl
@[simp] theorem State.failed_reads (e : OutcomeCode) : (s.failed e).reads = s.reads := rfl
@[simp] theorem State.failed_draws (e : OutcomeCode) : (s.failed e).draws = s.draws := rfl

@[simp] theorem State.errorCleared_stgCfg : s.errorCleared.stgCfg = s.stgCfg := rfl
@[simp] theorem State.errorCleared_stgPoly : s.errorCleared.stgPoly = s.stgPoly := rfl
@[simp] theorem State.errorCleared_stgInit : s.errorCleared.stgInit = s.stgInit := rfl
@[simp] theorem State.errorCleared_stgXorout : s.errorCleared.stgXorout = s.stgXorout := rfl
@[simp] theorem State.errorCleared_operand : s.errorCleared.operand = s.operand := rfl
@[simp] theorem State.errorCleared_cfgValid : s.errorCleared.cfgValid = s.cfgValid := rfl
@[simp] theorem State.errorCleared_aBits : s.errorCleared.aBits = s.aBits := rfl
@[simp] theorem State.errorCleared_aRefin : s.errorCleared.aRefin = s.aRefin := rfl
@[simp] theorem State.errorCleared_aRefoutBits : s.errorCleared.aRefoutBits = s.aRefoutBits := rfl
@[simp] theorem State.errorCleared_aRefoutBytes : s.errorCleared.aRefoutBytes = s.aRefoutBytes := rfl
@[simp] theorem State.errorCleared_aPoly : s.errorCleared.aPoly = s.aPoly := rfl
@[simp] theorem State.errorCleared_aInit : s.errorCleared.aInit = s.aInit := rfl
@[simp] theorem State.errorCleared_aXorout : s.errorCleared.aXorout = s.aXorout := rfl
@[simp] theorem State.errorCleared_mask : s.errorCleared.mask = s.mask := rfl
@[simp] theorem State.errorCleared_topbit : s.errorCleared.topbit = s.topbit := rfl
@[simp] theorem State.errorCleared_nbytes : s.errorCleared.nbytes = s.nbytes := rfl
@[simp] theorem State.errorCleared_acc : s.errorCleared.acc = s.acc := rfl
@[simp] theorem State.errorCleared_auxout : s.errorCleared.auxout = s.auxout := rfl
@[simp] theorem State.errorCleared_table : s.errorCleared.table = s.table := rfl
@[simp] theorem State.errorCleared_tableValid : s.errorCleared.tableValid = s.tableValid := rfl
@[simp] theorem State.errorCleared_errSticky : s.errorCleared.errSticky = false := rfl
@[simp] theorem State.errorCleared_lastErr : s.errorCleared.lastErr = s.lastErr := rfl
@[simp] theorem State.errorCleared_pending : s.errorCleared.pending = s.pending := rfl
@[simp] theorem State.errorCleared_reads : s.errorCleared.reads = s.reads := rfl
@[simp] theorem State.errorCleared_draws : s.errorCleared.draws = s.draws := rfl

@[simp] theorem State.withAcc_stgCfg (v : Word) : (s.withAcc v).stgCfg = s.stgCfg := rfl
@[simp] theorem State.withAcc_stgPoly (v : Word) : (s.withAcc v).stgPoly = s.stgPoly := rfl
@[simp] theorem State.withAcc_stgInit (v : Word) : (s.withAcc v).stgInit = s.stgInit := rfl
@[simp] theorem State.withAcc_stgXorout (v : Word) : (s.withAcc v).stgXorout = s.stgXorout := rfl
@[simp] theorem State.withAcc_operand (v : Word) : (s.withAcc v).operand = s.operand := rfl
@[simp] theorem State.withAcc_cfgValid (v : Word) : (s.withAcc v).cfgValid = s.cfgValid := rfl
@[simp] theorem State.withAcc_aBits (v : Word) : (s.withAcc v).aBits = s.aBits := rfl
@[simp] theorem State.withAcc_aRefin (v : Word) : (s.withAcc v).aRefin = s.aRefin := rfl
@[simp] theorem State.withAcc_aRefoutBits (v : Word) : (s.withAcc v).aRefoutBits = s.aRefoutBits := rfl
@[simp] theorem State.withAcc_aRefoutBytes (v : Word) : (s.withAcc v).aRefoutBytes = s.aRefoutBytes := rfl
@[simp] theorem State.withAcc_aPoly (v : Word) : (s.withAcc v).aPoly = s.aPoly := rfl
@[simp] theorem State.withAcc_aInit (v : Word) : (s.withAcc v).aInit = s.aInit := rfl
@[simp] theorem State.withAcc_aXorout (v : Word) : (s.withAcc v).aXorout = s.aXorout := rfl
@[simp] theorem State.withAcc_mask (v : Word) : (s.withAcc v).mask = s.mask := rfl
@[simp] theorem State.withAcc_topbit (v : Word) : (s.withAcc v).topbit = s.topbit := rfl
@[simp] theorem State.withAcc_nbytes (v : Word) : (s.withAcc v).nbytes = s.nbytes := rfl
@[simp] theorem State.withAcc_acc (v : Word) : (s.withAcc v).acc = v := rfl
@[simp] theorem State.withAcc_auxout (v : Word) : (s.withAcc v).auxout = s.auxout := rfl
@[simp] theorem State.withAcc_table (v : Word) : (s.withAcc v).table = s.table := rfl
@[simp] theorem State.withAcc_tableValid (v : Word) : (s.withAcc v).tableValid = s.tableValid := rfl
@[simp] theorem State.withAcc_errSticky (v : Word) : (s.withAcc v).errSticky = s.errSticky := rfl
@[simp] theorem State.withAcc_lastErr (v : Word) : (s.withAcc v).lastErr = s.lastErr := rfl
@[simp] theorem State.withAcc_pending (v : Word) : (s.withAcc v).pending = s.pending := rfl
@[simp] theorem State.withAcc_reads (v : Word) : (s.withAcc v).reads = s.reads := rfl
@[simp] theorem State.withAcc_draws (v : Word) : (s.withAcc v).draws = s.draws := rfl

@[simp] theorem State.withAuxout_stgCfg (v : Word) : (s.withAuxout v).stgCfg = s.stgCfg := rfl
@[simp] theorem State.withAuxout_stgPoly (v : Word) : (s.withAuxout v).stgPoly = s.stgPoly := rfl
@[simp] theorem State.withAuxout_stgInit (v : Word) : (s.withAuxout v).stgInit = s.stgInit := rfl
@[simp] theorem State.withAuxout_stgXorout (v : Word) : (s.withAuxout v).stgXorout = s.stgXorout := rfl
@[simp] theorem State.withAuxout_operand (v : Word) : (s.withAuxout v).operand = s.operand := rfl
@[simp] theorem State.withAuxout_cfgValid (v : Word) : (s.withAuxout v).cfgValid = s.cfgValid := rfl
@[simp] theorem State.withAuxout_aBits (v : Word) : (s.withAuxout v).aBits = s.aBits := rfl
@[simp] theorem State.withAuxout_aRefin (v : Word) : (s.withAuxout v).aRefin = s.aRefin := rfl
@[simp] theorem State.withAuxout_aRefoutBits (v : Word) : (s.withAuxout v).aRefoutBits = s.aRefoutBits := rfl
@[simp] theorem State.withAuxout_aRefoutBytes (v : Word) : (s.withAuxout v).aRefoutBytes = s.aRefoutBytes := rfl
@[simp] theorem State.withAuxout_aPoly (v : Word) : (s.withAuxout v).aPoly = s.aPoly := rfl
@[simp] theorem State.withAuxout_aInit (v : Word) : (s.withAuxout v).aInit = s.aInit := rfl
@[simp] theorem State.withAuxout_aXorout (v : Word) : (s.withAuxout v).aXorout = s.aXorout := rfl
@[simp] theorem State.withAuxout_mask (v : Word) : (s.withAuxout v).mask = s.mask := rfl
@[simp] theorem State.withAuxout_topbit (v : Word) : (s.withAuxout v).topbit = s.topbit := rfl
@[simp] theorem State.withAuxout_nbytes (v : Word) : (s.withAuxout v).nbytes = s.nbytes := rfl
@[simp] theorem State.withAuxout_acc (v : Word) : (s.withAuxout v).acc = s.acc := rfl
@[simp] theorem State.withAuxout_auxout (v : Word) : (s.withAuxout v).auxout = v := rfl
@[simp] theorem State.withAuxout_table (v : Word) : (s.withAuxout v).table = s.table := rfl
@[simp] theorem State.withAuxout_tableValid (v : Word) : (s.withAuxout v).tableValid = s.tableValid := rfl
@[simp] theorem State.withAuxout_errSticky (v : Word) : (s.withAuxout v).errSticky = s.errSticky := rfl
@[simp] theorem State.withAuxout_lastErr (v : Word) : (s.withAuxout v).lastErr = s.lastErr := rfl
@[simp] theorem State.withAuxout_pending (v : Word) : (s.withAuxout v).pending = s.pending := rfl
@[simp] theorem State.withAuxout_reads (v : Word) : (s.withAuxout v).reads = s.reads := rfl
@[simp] theorem State.withAuxout_draws (v : Word) : (s.withAuxout v).draws = s.draws := rfl

@[simp] theorem State.withTable_stgCfg (u : TableRam) : (s.withTable u).stgCfg = s.stgCfg := rfl
@[simp] theorem State.withTable_stgPoly (u : TableRam) : (s.withTable u).stgPoly = s.stgPoly := rfl
@[simp] theorem State.withTable_stgInit (u : TableRam) : (s.withTable u).stgInit = s.stgInit := rfl
@[simp] theorem State.withTable_stgXorout (u : TableRam) : (s.withTable u).stgXorout = s.stgXorout := rfl
@[simp] theorem State.withTable_operand (u : TableRam) : (s.withTable u).operand = s.operand := rfl
@[simp] theorem State.withTable_cfgValid (u : TableRam) : (s.withTable u).cfgValid = s.cfgValid := rfl
@[simp] theorem State.withTable_aBits (u : TableRam) : (s.withTable u).aBits = s.aBits := rfl
@[simp] theorem State.withTable_aRefin (u : TableRam) : (s.withTable u).aRefin = s.aRefin := rfl
@[simp] theorem State.withTable_aRefoutBits (u : TableRam) : (s.withTable u).aRefoutBits = s.aRefoutBits := rfl
@[simp] theorem State.withTable_aRefoutBytes (u : TableRam) : (s.withTable u).aRefoutBytes = s.aRefoutBytes := rfl
@[simp] theorem State.withTable_aPoly (u : TableRam) : (s.withTable u).aPoly = s.aPoly := rfl
@[simp] theorem State.withTable_aInit (u : TableRam) : (s.withTable u).aInit = s.aInit := rfl
@[simp] theorem State.withTable_aXorout (u : TableRam) : (s.withTable u).aXorout = s.aXorout := rfl
@[simp] theorem State.withTable_mask (u : TableRam) : (s.withTable u).mask = s.mask := rfl
@[simp] theorem State.withTable_topbit (u : TableRam) : (s.withTable u).topbit = s.topbit := rfl
@[simp] theorem State.withTable_nbytes (u : TableRam) : (s.withTable u).nbytes = s.nbytes := rfl
@[simp] theorem State.withTable_acc (u : TableRam) : (s.withTable u).acc = s.acc := rfl
@[simp] theorem State.withTable_auxout (u : TableRam) : (s.withTable u).auxout = s.auxout := rfl
@[simp] theorem State.withTable_table (u : TableRam) : (s.withTable u).table = u := rfl
@[simp] theorem State.withTable_tableValid (u : TableRam) : (s.withTable u).tableValid = true := rfl
@[simp] theorem State.withTable_errSticky (u : TableRam) : (s.withTable u).errSticky = s.errSticky := rfl
@[simp] theorem State.withTable_lastErr (u : TableRam) : (s.withTable u).lastErr = s.lastErr := rfl
@[simp] theorem State.withTable_pending (u : TableRam) : (s.withTable u).pending = s.pending := rfl
@[simp] theorem State.withTable_reads (u : TableRam) : (s.withTable u).reads = s.reads := rfl
@[simp] theorem State.withTable_draws (u : TableRam) : (s.withTable u).draws = s.draws := rfl

@[simp] theorem State.withPending_stgCfg (p : List HostAccess) : (s.withPending p).stgCfg = s.stgCfg := rfl
@[simp] theorem State.withPending_stgPoly (p : List HostAccess) : (s.withPending p).stgPoly = s.stgPoly := rfl
@[simp] theorem State.withPending_stgInit (p : List HostAccess) : (s.withPending p).stgInit = s.stgInit := rfl
@[simp] theorem State.withPending_stgXorout (p : List HostAccess) : (s.withPending p).stgXorout = s.stgXorout := rfl
@[simp] theorem State.withPending_operand (p : List HostAccess) : (s.withPending p).operand = s.operand := rfl
@[simp] theorem State.withPending_cfgValid (p : List HostAccess) : (s.withPending p).cfgValid = s.cfgValid := rfl
@[simp] theorem State.withPending_aBits (p : List HostAccess) : (s.withPending p).aBits = s.aBits := rfl
@[simp] theorem State.withPending_aRefin (p : List HostAccess) : (s.withPending p).aRefin = s.aRefin := rfl
@[simp] theorem State.withPending_aRefoutBits (p : List HostAccess) : (s.withPending p).aRefoutBits = s.aRefoutBits := rfl
@[simp] theorem State.withPending_aRefoutBytes (p : List HostAccess) : (s.withPending p).aRefoutBytes = s.aRefoutBytes := rfl
@[simp] theorem State.withPending_aPoly (p : List HostAccess) : (s.withPending p).aPoly = s.aPoly := rfl
@[simp] theorem State.withPending_aInit (p : List HostAccess) : (s.withPending p).aInit = s.aInit := rfl
@[simp] theorem State.withPending_aXorout (p : List HostAccess) : (s.withPending p).aXorout = s.aXorout := rfl
@[simp] theorem State.withPending_mask (p : List HostAccess) : (s.withPending p).mask = s.mask := rfl
@[simp] theorem State.withPending_topbit (p : List HostAccess) : (s.withPending p).topbit = s.topbit := rfl
@[simp] theorem State.withPending_nbytes (p : List HostAccess) : (s.withPending p).nbytes = s.nbytes := rfl
@[simp] theorem State.withPending_acc (p : List HostAccess) : (s.withPending p).acc = s.acc := rfl
@[simp] theorem State.withPending_auxout (p : List HostAccess) : (s.withPending p).auxout = s.auxout := rfl
@[simp] theorem State.withPending_table (p : List HostAccess) : (s.withPending p).table = s.table := rfl
@[simp] theorem State.withPending_tableValid (p : List HostAccess) : (s.withPending p).tableValid = s.tableValid := rfl
@[simp] theorem State.withPending_errSticky (p : List HostAccess) : (s.withPending p).errSticky = s.errSticky := rfl
@[simp] theorem State.withPending_lastErr (p : List HostAccess) : (s.withPending p).lastErr = s.lastErr := rfl
@[simp] theorem State.withPending_pending (p : List HostAccess) : (s.withPending p).pending = p := rfl
@[simp] theorem State.withPending_reads (p : List HostAccess) : (s.withPending p).reads = s.reads := rfl
@[simp] theorem State.withPending_draws (p : List HostAccess) : (s.withPending p).draws = s.draws := rfl

@[simp] theorem State.withRead_stgCfg (v : Word) : (s.withRead v).stgCfg = s.stgCfg := rfl
@[simp] theorem State.withRead_stgPoly (v : Word) : (s.withRead v).stgPoly = s.stgPoly := rfl
@[simp] theorem State.withRead_stgInit (v : Word) : (s.withRead v).stgInit = s.stgInit := rfl
@[simp] theorem State.withRead_stgXorout (v : Word) : (s.withRead v).stgXorout = s.stgXorout := rfl
@[simp] theorem State.withRead_operand (v : Word) : (s.withRead v).operand = s.operand := rfl
@[simp] theorem State.withRead_cfgValid (v : Word) : (s.withRead v).cfgValid = s.cfgValid := rfl
@[simp] theorem State.withRead_aBits (v : Word) : (s.withRead v).aBits = s.aBits := rfl
@[simp] theorem State.withRead_aRefin (v : Word) : (s.withRead v).aRefin = s.aRefin := rfl
@[simp] theorem State.withRead_aRefoutBits (v : Word) : (s.withRead v).aRefoutBits = s.aRefoutBits := rfl
@[simp] theorem State.withRead_aRefoutBytes (v : Word) : (s.withRead v).aRefoutBytes = s.aRefoutBytes := rfl
@[simp] theorem State.withRead_aPoly (v : Word) : (s.withRead v).aPoly = s.aPoly := rfl
@[simp] theorem State.withRead_aInit (v : Word) : (s.withRead v).aInit = s.aInit := rfl
@[simp] theorem State.withRead_aXorout (v : Word) : (s.withRead v).aXorout = s.aXorout := rfl
@[simp] theorem State.withRead_mask (v : Word) : (s.withRead v).mask = s.mask := rfl
@[simp] theorem State.withRead_topbit (v : Word) : (s.withRead v).topbit = s.topbit := rfl
@[simp] theorem State.withRead_nbytes (v : Word) : (s.withRead v).nbytes = s.nbytes := rfl
@[simp] theorem State.withRead_acc (v : Word) : (s.withRead v).acc = s.acc := rfl
@[simp] theorem State.withRead_auxout (v : Word) : (s.withRead v).auxout = s.auxout := rfl
@[simp] theorem State.withRead_table (v : Word) : (s.withRead v).table = s.table := rfl
@[simp] theorem State.withRead_tableValid (v : Word) : (s.withRead v).tableValid = s.tableValid := rfl
@[simp] theorem State.withRead_errSticky (v : Word) : (s.withRead v).errSticky = s.errSticky := rfl
@[simp] theorem State.withRead_lastErr (v : Word) : (s.withRead v).lastErr = s.lastErr := rfl
@[simp] theorem State.withRead_pending (v : Word) : (s.withRead v).pending = s.pending := rfl
@[simp] theorem State.withRead_reads (v : Word) : (s.withRead v).reads = s.reads ++ [v] := rfl
@[simp] theorem State.withRead_draws (v : Word) : (s.withRead v).draws = s.draws := rfl

@[simp] theorem State.withStgCfg_stgCfg (v : Word) : (s.withStgCfg v).stgCfg = cfgStored v := rfl
@[simp] theorem State.withStgCfg_stgPoly (v : Word) : (s.withStgCfg v).stgPoly = s.stgPoly := rfl
@[simp] theorem State.withStgCfg_stgInit (v : Word) : (s.withStgCfg v).stgInit = s.stgInit := rfl
@[simp] theorem State.withStgCfg_stgXorout (v : Word) : (s.withStgCfg v).stgXorout = s.stgXorout := rfl
@[simp] theorem State.withStgCfg_operand (v : Word) : (s.withStgCfg v).operand = s.operand := rfl
@[simp] theorem State.withStgCfg_cfgValid (v : Word) : (s.withStgCfg v).cfgValid = s.cfgValid := rfl
@[simp] theorem State.withStgCfg_aBits (v : Word) : (s.withStgCfg v).aBits = s.aBits := rfl
@[simp] theorem State.withStgCfg_aRefin (v : Word) : (s.withStgCfg v).aRefin = s.aRefin := rfl
@[simp] theorem State.withStgCfg_aRefoutBits (v : Word) : (s.withStgCfg v).aRefoutBits = s.aRefoutBits := rfl
@[simp] theorem State.withStgCfg_aRefoutBytes (v : Word) : (s.withStgCfg v).aRefoutBytes = s.aRefoutBytes := rfl
@[simp] theorem State.withStgCfg_aPoly (v : Word) : (s.withStgCfg v).aPoly = s.aPoly := rfl
@[simp] theorem State.withStgCfg_aInit (v : Word) : (s.withStgCfg v).aInit = s.aInit := rfl
@[simp] theorem State.withStgCfg_aXorout (v : Word) : (s.withStgCfg v).aXorout = s.aXorout := rfl
@[simp] theorem State.withStgCfg_mask (v : Word) : (s.withStgCfg v).mask = s.mask := rfl
@[simp] theorem State.withStgCfg_topbit (v : Word) : (s.withStgCfg v).topbit = s.topbit := rfl
@[simp] theorem State.withStgCfg_nbytes (v : Word) : (s.withStgCfg v).nbytes = s.nbytes := rfl
@[simp] theorem State.withStgCfg_acc (v : Word) : (s.withStgCfg v).acc = s.acc := rfl
@[simp] theorem State.withStgCfg_auxout (v : Word) : (s.withStgCfg v).auxout = s.auxout := rfl
@[simp] theorem State.withStgCfg_table (v : Word) : (s.withStgCfg v).table = s.table := rfl
@[simp] theorem State.withStgCfg_tableValid (v : Word) : (s.withStgCfg v).tableValid = s.tableValid := rfl
@[simp] theorem State.withStgCfg_errSticky (v : Word) : (s.withStgCfg v).errSticky = s.errSticky := rfl
@[simp] theorem State.withStgCfg_lastErr (v : Word) : (s.withStgCfg v).lastErr = s.lastErr := rfl
@[simp] theorem State.withStgCfg_pending (v : Word) : (s.withStgCfg v).pending = s.pending := rfl
@[simp] theorem State.withStgCfg_reads (v : Word) : (s.withStgCfg v).reads = s.reads := rfl
@[simp] theorem State.withStgCfg_draws (v : Word) : (s.withStgCfg v).draws = s.draws := rfl

@[simp] theorem State.withStgPoly_stgCfg (v : Word) : (s.withStgPoly v).stgCfg = s.stgCfg := rfl
@[simp] theorem State.withStgPoly_stgPoly (v : Word) : (s.withStgPoly v).stgPoly = v := rfl
@[simp] theorem State.withStgPoly_stgInit (v : Word) : (s.withStgPoly v).stgInit = s.stgInit := rfl
@[simp] theorem State.withStgPoly_stgXorout (v : Word) : (s.withStgPoly v).stgXorout = s.stgXorout := rfl
@[simp] theorem State.withStgPoly_operand (v : Word) : (s.withStgPoly v).operand = s.operand := rfl
@[simp] theorem State.withStgPoly_cfgValid (v : Word) : (s.withStgPoly v).cfgValid = s.cfgValid := rfl
@[simp] theorem State.withStgPoly_aBits (v : Word) : (s.withStgPoly v).aBits = s.aBits := rfl
@[simp] theorem State.withStgPoly_aRefin (v : Word) : (s.withStgPoly v).aRefin = s.aRefin := rfl
@[simp] theorem State.withStgPoly_aRefoutBits (v : Word) : (s.withStgPoly v).aRefoutBits = s.aRefoutBits := rfl
@[simp] theorem State.withStgPoly_aRefoutBytes (v : Word) : (s.withStgPoly v).aRefoutBytes = s.aRefoutBytes := rfl
@[simp] theorem State.withStgPoly_aPoly (v : Word) : (s.withStgPoly v).aPoly = s.aPoly := rfl
@[simp] theorem State.withStgPoly_aInit (v : Word) : (s.withStgPoly v).aInit = s.aInit := rfl
@[simp] theorem State.withStgPoly_aXorout (v : Word) : (s.withStgPoly v).aXorout = s.aXorout := rfl
@[simp] theorem State.withStgPoly_mask (v : Word) : (s.withStgPoly v).mask = s.mask := rfl
@[simp] theorem State.withStgPoly_topbit (v : Word) : (s.withStgPoly v).topbit = s.topbit := rfl
@[simp] theorem State.withStgPoly_nbytes (v : Word) : (s.withStgPoly v).nbytes = s.nbytes := rfl
@[simp] theorem State.withStgPoly_acc (v : Word) : (s.withStgPoly v).acc = s.acc := rfl
@[simp] theorem State.withStgPoly_auxout (v : Word) : (s.withStgPoly v).auxout = s.auxout := rfl
@[simp] theorem State.withStgPoly_table (v : Word) : (s.withStgPoly v).table = s.table := rfl
@[simp] theorem State.withStgPoly_tableValid (v : Word) : (s.withStgPoly v).tableValid = s.tableValid := rfl
@[simp] theorem State.withStgPoly_errSticky (v : Word) : (s.withStgPoly v).errSticky = s.errSticky := rfl
@[simp] theorem State.withStgPoly_lastErr (v : Word) : (s.withStgPoly v).lastErr = s.lastErr := rfl
@[simp] theorem State.withStgPoly_pending (v : Word) : (s.withStgPoly v).pending = s.pending := rfl
@[simp] theorem State.withStgPoly_reads (v : Word) : (s.withStgPoly v).reads = s.reads := rfl
@[simp] theorem State.withStgPoly_draws (v : Word) : (s.withStgPoly v).draws = s.draws := rfl

@[simp] theorem State.withStgInit_stgCfg (v : Word) : (s.withStgInit v).stgCfg = s.stgCfg := rfl
@[simp] theorem State.withStgInit_stgPoly (v : Word) : (s.withStgInit v).stgPoly = s.stgPoly := rfl
@[simp] theorem State.withStgInit_stgInit (v : Word) : (s.withStgInit v).stgInit = v := rfl
@[simp] theorem State.withStgInit_stgXorout (v : Word) : (s.withStgInit v).stgXorout = s.stgXorout := rfl
@[simp] theorem State.withStgInit_operand (v : Word) : (s.withStgInit v).operand = s.operand := rfl
@[simp] theorem State.withStgInit_cfgValid (v : Word) : (s.withStgInit v).cfgValid = s.cfgValid := rfl
@[simp] theorem State.withStgInit_aBits (v : Word) : (s.withStgInit v).aBits = s.aBits := rfl
@[simp] theorem State.withStgInit_aRefin (v : Word) : (s.withStgInit v).aRefin = s.aRefin := rfl
@[simp] theorem State.withStgInit_aRefoutBits (v : Word) : (s.withStgInit v).aRefoutBits = s.aRefoutBits := rfl
@[simp] theorem State.withStgInit_aRefoutBytes (v : Word) : (s.withStgInit v).aRefoutBytes = s.aRefoutBytes := rfl
@[simp] theorem State.withStgInit_aPoly (v : Word) : (s.withStgInit v).aPoly = s.aPoly := rfl
@[simp] theorem State.withStgInit_aInit (v : Word) : (s.withStgInit v).aInit = s.aInit := rfl
@[simp] theorem State.withStgInit_aXorout (v : Word) : (s.withStgInit v).aXorout = s.aXorout := rfl
@[simp] theorem State.withStgInit_mask (v : Word) : (s.withStgInit v).mask = s.mask := rfl
@[simp] theorem State.withStgInit_topbit (v : Word) : (s.withStgInit v).topbit = s.topbit := rfl
@[simp] theorem State.withStgInit_nbytes (v : Word) : (s.withStgInit v).nbytes = s.nbytes := rfl
@[simp] theorem State.withStgInit_acc (v : Word) : (s.withStgInit v).acc = s.acc := rfl
@[simp] theorem State.withStgInit_auxout (v : Word) : (s.withStgInit v).auxout = s.auxout := rfl
@[simp] theorem State.withStgInit_table (v : Word) : (s.withStgInit v).table = s.table := rfl
@[simp] theorem State.withStgInit_tableValid (v : Word) : (s.withStgInit v).tableValid = s.tableValid := rfl
@[simp] theorem State.withStgInit_errSticky (v : Word) : (s.withStgInit v).errSticky = s.errSticky := rfl
@[simp] theorem State.withStgInit_lastErr (v : Word) : (s.withStgInit v).lastErr = s.lastErr := rfl
@[simp] theorem State.withStgInit_pending (v : Word) : (s.withStgInit v).pending = s.pending := rfl
@[simp] theorem State.withStgInit_reads (v : Word) : (s.withStgInit v).reads = s.reads := rfl
@[simp] theorem State.withStgInit_draws (v : Word) : (s.withStgInit v).draws = s.draws := rfl

@[simp] theorem State.withStgXorout_stgCfg (v : Word) : (s.withStgXorout v).stgCfg = s.stgCfg := rfl
@[simp] theorem State.withStgXorout_stgPoly (v : Word) : (s.withStgXorout v).stgPoly = s.stgPoly := rfl
@[simp] theorem State.withStgXorout_stgInit (v : Word) : (s.withStgXorout v).stgInit = s.stgInit := rfl
@[simp] theorem State.withStgXorout_stgXorout (v : Word) : (s.withStgXorout v).stgXorout = v := rfl
@[simp] theorem State.withStgXorout_operand (v : Word) : (s.withStgXorout v).operand = s.operand := rfl
@[simp] theorem State.withStgXorout_cfgValid (v : Word) : (s.withStgXorout v).cfgValid = s.cfgValid := rfl
@[simp] theorem State.withStgXorout_aBits (v : Word) : (s.withStgXorout v).aBits = s.aBits := rfl
@[simp] theorem State.withStgXorout_aRefin (v : Word) : (s.withStgXorout v).aRefin = s.aRefin := rfl
@[simp] theorem State.withStgXorout_aRefoutBits (v : Word) : (s.withStgXorout v).aRefoutBits = s.aRefoutBits := rfl
@[simp] theorem State.withStgXorout_aRefoutBytes (v : Word) : (s.withStgXorout v).aRefoutBytes = s.aRefoutBytes := rfl
@[simp] theorem State.withStgXorout_aPoly (v : Word) : (s.withStgXorout v).aPoly = s.aPoly := rfl
@[simp] theorem State.withStgXorout_aInit (v : Word) : (s.withStgXorout v).aInit = s.aInit := rfl
@[simp] theorem State.withStgXorout_aXorout (v : Word) : (s.withStgXorout v).aXorout = s.aXorout := rfl
@[simp] theorem State.withStgXorout_mask (v : Word) : (s.withStgXorout v).mask = s.mask := rfl
@[simp] theorem State.withStgXorout_topbit (v : Word) : (s.withStgXorout v).topbit = s.topbit := rfl
@[simp] theorem State.withStgXorout_nbytes (v : Word) : (s.withStgXorout v).nbytes = s.nbytes := rfl
@[simp] theorem State.withStgXorout_acc (v : Word) : (s.withStgXorout v).acc = s.acc := rfl
@[simp] theorem State.withStgXorout_auxout (v : Word) : (s.withStgXorout v).auxout = s.auxout := rfl
@[simp] theorem State.withStgXorout_table (v : Word) : (s.withStgXorout v).table = s.table := rfl
@[simp] theorem State.withStgXorout_tableValid (v : Word) : (s.withStgXorout v).tableValid = s.tableValid := rfl
@[simp] theorem State.withStgXorout_errSticky (v : Word) : (s.withStgXorout v).errSticky = s.errSticky := rfl
@[simp] theorem State.withStgXorout_lastErr (v : Word) : (s.withStgXorout v).lastErr = s.lastErr := rfl
@[simp] theorem State.withStgXorout_pending (v : Word) : (s.withStgXorout v).pending = s.pending := rfl
@[simp] theorem State.withStgXorout_reads (v : Word) : (s.withStgXorout v).reads = s.reads := rfl
@[simp] theorem State.withStgXorout_draws (v : Word) : (s.withStgXorout v).draws = s.draws := rfl

@[simp] theorem State.withOperand_stgCfg (v : Word) : (s.withOperand v).stgCfg = s.stgCfg := rfl
@[simp] theorem State.withOperand_stgPoly (v : Word) : (s.withOperand v).stgPoly = s.stgPoly := rfl
@[simp] theorem State.withOperand_stgInit (v : Word) : (s.withOperand v).stgInit = s.stgInit := rfl
@[simp] theorem State.withOperand_stgXorout (v : Word) : (s.withOperand v).stgXorout = s.stgXorout := rfl
@[simp] theorem State.withOperand_operand (v : Word) : (s.withOperand v).operand = v := rfl
@[simp] theorem State.withOperand_cfgValid (v : Word) : (s.withOperand v).cfgValid = s.cfgValid := rfl
@[simp] theorem State.withOperand_aBits (v : Word) : (s.withOperand v).aBits = s.aBits := rfl
@[simp] theorem State.withOperand_aRefin (v : Word) : (s.withOperand v).aRefin = s.aRefin := rfl
@[simp] theorem State.withOperand_aRefoutBits (v : Word) : (s.withOperand v).aRefoutBits = s.aRefoutBits := rfl
@[simp] theorem State.withOperand_aRefoutBytes (v : Word) : (s.withOperand v).aRefoutBytes = s.aRefoutBytes := rfl
@[simp] theorem State.withOperand_aPoly (v : Word) : (s.withOperand v).aPoly = s.aPoly := rfl
@[simp] theorem State.withOperand_aInit (v : Word) : (s.withOperand v).aInit = s.aInit := rfl
@[simp] theorem State.withOperand_aXorout (v : Word) : (s.withOperand v).aXorout = s.aXorout := rfl
@[simp] theorem State.withOperand_mask (v : Word) : (s.withOperand v).mask = s.mask := rfl
@[simp] theorem State.withOperand_topbit (v : Word) : (s.withOperand v).topbit = s.topbit := rfl
@[simp] theorem State.withOperand_nbytes (v : Word) : (s.withOperand v).nbytes = s.nbytes := rfl
@[simp] theorem State.withOperand_acc (v : Word) : (s.withOperand v).acc = s.acc := rfl
@[simp] theorem State.withOperand_auxout (v : Word) : (s.withOperand v).auxout = s.auxout := rfl
@[simp] theorem State.withOperand_table (v : Word) : (s.withOperand v).table = s.table := rfl
@[simp] theorem State.withOperand_tableValid (v : Word) : (s.withOperand v).tableValid = s.tableValid := rfl
@[simp] theorem State.withOperand_errSticky (v : Word) : (s.withOperand v).errSticky = s.errSticky := rfl
@[simp] theorem State.withOperand_lastErr (v : Word) : (s.withOperand v).lastErr = s.lastErr := rfl
@[simp] theorem State.withOperand_pending (v : Word) : (s.withOperand v).pending = s.pending := rfl
@[simp] theorem State.withOperand_reads (v : Word) : (s.withOperand v).reads = s.reads := rfl
@[simp] theorem State.withOperand_draws (v : Word) : (s.withOperand v).draws = s.draws := rfl

@[simp] theorem State.deconfigured_stgCfg : s.deconfigured.stgCfg = s.stgCfg := rfl
@[simp] theorem State.deconfigured_stgPoly : s.deconfigured.stgPoly = s.stgPoly := rfl
@[simp] theorem State.deconfigured_stgInit : s.deconfigured.stgInit = s.stgInit := rfl
@[simp] theorem State.deconfigured_stgXorout : s.deconfigured.stgXorout = s.stgXorout := rfl
@[simp] theorem State.deconfigured_operand : s.deconfigured.operand = s.operand := rfl
@[simp] theorem State.deconfigured_cfgValid : s.deconfigured.cfgValid = false := rfl
@[simp] theorem State.deconfigured_aBits : s.deconfigured.aBits = 0 := rfl
@[simp] theorem State.deconfigured_aRefin : s.deconfigured.aRefin = false := rfl
@[simp] theorem State.deconfigured_aRefoutBits : s.deconfigured.aRefoutBits = false := rfl
@[simp] theorem State.deconfigured_aRefoutBytes : s.deconfigured.aRefoutBytes = false := rfl
@[simp] theorem State.deconfigured_aPoly : s.deconfigured.aPoly = 0 := rfl
@[simp] theorem State.deconfigured_aInit : s.deconfigured.aInit = 0 := rfl
@[simp] theorem State.deconfigured_aXorout : s.deconfigured.aXorout = 0 := rfl
@[simp] theorem State.deconfigured_mask : s.deconfigured.mask = 0 := rfl
@[simp] theorem State.deconfigured_topbit : s.deconfigured.topbit = 0 := rfl
@[simp] theorem State.deconfigured_nbytes : s.deconfigured.nbytes = 0 := rfl
@[simp] theorem State.deconfigured_acc : s.deconfigured.acc = 0 := rfl
@[simp] theorem State.deconfigured_auxout : s.deconfigured.auxout = s.auxout := rfl
@[simp] theorem State.deconfigured_table : s.deconfigured.table = s.table := rfl
@[simp] theorem State.deconfigured_tableValid : s.deconfigured.tableValid = false := rfl
@[simp] theorem State.deconfigured_errSticky : s.deconfigured.errSticky = s.errSticky := rfl
@[simp] theorem State.deconfigured_lastErr : s.deconfigured.lastErr = s.lastErr := rfl
@[simp] theorem State.deconfigured_pending : s.deconfigured.pending = s.pending := rfl
@[simp] theorem State.deconfigured_reads : s.deconfigured.reads = s.reads := rfl
@[simp] theorem State.deconfigured_draws : s.deconfigured.draws = s.draws := rfl

@[simp] theorem State.configured_stgCfg : s.configured.stgCfg = s.stgCfg := rfl
@[simp] theorem State.configured_stgPoly : s.configured.stgPoly = s.stgPoly := rfl
@[simp] theorem State.configured_stgInit : s.configured.stgInit = s.stgInit := rfl
@[simp] theorem State.configured_stgXorout : s.configured.stgXorout = s.stgXorout := rfl
@[simp] theorem State.configured_operand : s.configured.operand = s.operand := rfl
@[simp] theorem State.configured_cfgValid : s.configured.cfgValid = true := rfl
@[simp] theorem State.configured_aBits : s.configured.aBits = cfgBits s.stgCfg := rfl
@[simp] theorem State.configured_aRefin : s.configured.aRefin = cfgRefin s.stgCfg := rfl
@[simp] theorem State.configured_aRefoutBits : s.configured.aRefoutBits = cfgRefoutBits s.stgCfg := rfl
@[simp] theorem State.configured_aRefoutBytes : s.configured.aRefoutBytes = cfgRefoutBytes s.stgCfg := rfl
@[simp] theorem State.configured_aPoly : s.configured.aPoly = s.stgPoly := rfl
@[simp] theorem State.configured_aInit : s.configured.aInit = s.stgInit := rfl
@[simp] theorem State.configured_aXorout : s.configured.aXorout = s.stgXorout := rfl
@[simp] theorem State.configured_mask : s.configured.mask = maskOf (cfgBits s.stgCfg) := rfl
@[simp] theorem State.configured_topbit : s.configured.topbit = topbitOf (cfgBits s.stgCfg) := rfl
@[simp] theorem State.configured_nbytes : s.configured.nbytes = nbytesOf (cfgBits s.stgCfg) := rfl
@[simp] theorem State.configured_acc : s.configured.acc = s.stgInit := rfl
@[simp] theorem State.configured_auxout : s.configured.auxout = s.auxout := rfl
@[simp] theorem State.configured_table : s.configured.table = s.table := rfl
@[simp] theorem State.configured_tableValid : s.configured.tableValid = false := rfl
@[simp] theorem State.configured_errSticky : s.configured.errSticky = s.errSticky := rfl
@[simp] theorem State.configured_lastErr : s.configured.lastErr = s.lastErr := rfl
@[simp] theorem State.configured_pending : s.configured.pending = s.pending := rfl
@[simp] theorem State.configured_reads : s.configured.reads = s.reads := rfl
@[simp] theorem State.configured_draws : s.configured.draws = s.draws := rfl

@[simp] theorem State.afterReset_stgCfg : s.afterReset.stgCfg = 0 := rfl
@[simp] theorem State.afterReset_stgPoly : s.afterReset.stgPoly = 0 := rfl
@[simp] theorem State.afterReset_stgInit : s.afterReset.stgInit = 0 := rfl
@[simp] theorem State.afterReset_stgXorout : s.afterReset.stgXorout = 0 := rfl
@[simp] theorem State.afterReset_operand : s.afterReset.operand = 0 := rfl
@[simp] theorem State.afterReset_cfgValid : s.afterReset.cfgValid = false := rfl
@[simp] theorem State.afterReset_aBits : s.afterReset.aBits = 0 := rfl
@[simp] theorem State.afterReset_aRefin : s.afterReset.aRefin = false := rfl
@[simp] theorem State.afterReset_aRefoutBits : s.afterReset.aRefoutBits = false := rfl
@[simp] theorem State.afterReset_aRefoutBytes : s.afterReset.aRefoutBytes = false := rfl
@[simp] theorem State.afterReset_aPoly : s.afterReset.aPoly = 0 := rfl
@[simp] theorem State.afterReset_aInit : s.afterReset.aInit = 0 := rfl
@[simp] theorem State.afterReset_aXorout : s.afterReset.aXorout = 0 := rfl
@[simp] theorem State.afterReset_mask : s.afterReset.mask = 0 := rfl
@[simp] theorem State.afterReset_topbit : s.afterReset.topbit = 0 := rfl
@[simp] theorem State.afterReset_nbytes : s.afterReset.nbytes = 0 := rfl
@[simp] theorem State.afterReset_acc : s.afterReset.acc = 0 := rfl
@[simp] theorem State.afterReset_auxout : s.afterReset.auxout = 0 := rfl
@[simp] theorem State.afterReset_table : s.afterReset.table = tableAfterReset s.draws := rfl
@[simp] theorem State.afterReset_tableValid : s.afterReset.tableValid = false := rfl
@[simp] theorem State.afterReset_errSticky : s.afterReset.errSticky = false := rfl
@[simp] theorem State.afterReset_lastErr : s.afterReset.lastErr = 0 := rfl
@[simp] theorem State.afterReset_pending : s.afterReset.pending = s.pending := rfl
@[simp] theorem State.afterReset_reads : s.afterReset.reads = s.reads := rfl
@[simp] theorem State.afterReset_draws : s.afterReset.draws = s.draws + 1 := rfl

end Sys2Proof.Machine
end

