-- ==== Sys2Proof/Laws/Exec.lean ====
section
/-! SUPPORT. Everything a command can do, said once: `ExecCase` lists the outcomes, one constructor for each
success and each error, and `exec_cases` reads them off any next state. -/

namespace Sys2Proof.Machine

open Sys2Proof.Safety

/-- The outcomes of a command in the state `s`: the command and the state it leaves. -/
inductive ExecCase (s : State) : Instr → State → Prop where
  | nop : ExecCase s .nop s.succeeded
  | latched (h : stagingLegal s = true) : ExecCase s .configure s.configured.succeeded
  | deconfigured (h : stagingLegal s = false) : ExecCase s .configure (s.deconfigured.failed .badConfig)
  | built (h : s.cfgValid = true) : ExecCase s .buildTable (s.withTable (builtTable s)).succeeded
  | started (h : s.cfgValid = true) : ExecCase s .start (s.withAcc s.aInit).succeeded
  | resumed (h : s.cfgValid = true) (ho : s.operand ≤ s.mask) :
      ExecCase s .resume (s.withAcc (unfinalized s s.operand)).succeeded
  | slow (d : Byte) (h : s.cfgValid = true) :
      ExecCase s (.updateSlow d) (s.withAcc (slowStep s s.acc d)).succeeded
  | fast (d : Byte) (h : s.cfgValid = true) (ht : s.tableValid = true) :
      ExecCase s (.updateFast d) (s.withAcc (fastStep s s.acc d)).succeeded
  | finalized (h : s.cfgValid = true) (ho : s.operand ≤ s.mask) :
      ExecCase s .finalizeOp (s.withAuxout (finalized s s.operand)).succeeded
  | unfinalized (h : s.cfgValid = true) (ho : s.operand ≤ s.mask) :
      ExecCase s .unfinalizeOp (s.withAuxout (unfinalized s s.operand)).succeeded
  | bits (n : BitVec 7) (h : n.toNat ≤ 64) :
      ExecCase s (.reflectBits n) (s.withAuxout (bitsReflected s.operand n.toNat)).succeeded
  | bytes (n : BitVec 7) (h : n.toNat ≤ 8) :
      ExecCase s (.reflectBytes n) (s.withAuxout (bytesReflected s.operand n.toNat)).succeeded
  | cleared : ExecCase s .clearErr s.errorCleared.succeeded
  | notConfigured {i : Instr} (hi : NeedsConfig i) (h : s.cfgValid = false) :
      ExecCase s i (s.failed .notConfigured)
  | noTable (d : Byte) (h : s.cfgValid = true) (ht : s.tableValid = false) :
      ExecCase s (.updateFast d) (s.failed .noTable)
  | operandRange {i : Instr} (hi : NeedsOperandInRange i) (h : s.cfgValid = true)
      (ho : s.mask < s.operand) : ExecCase s i (s.failed .operandRange)
  | illegalBits (n : BitVec 7) (h : 64 < n.toNat) : ExecCase s (.reflectBits n) (s.failed .illegal)
  | illegalBytes (n : BitVec 7) (h : 8 < n.toNat) : ExecCase s (.reflectBytes n) (s.failed .illegal)

/-- A command behind the configuration check. -/
theorem needConfigured_cases {s : State} {i : Instr} {r : Result} {t : State} (hi : NeedsConfig i)
    (h : needConfigured s r = .next t) :
    (s.cfgValid = true ∧ r = .next t) ∨ ExecCase s i t := by
  cases hc : s.cfgValid with
  | true => rw [needConfigured_of hc] at h; exact .inl ⟨rfl, h⟩
  | false =>
    rw [needConfigured_absent hc] at h
    cases h
    exact .inr (.notConfigured hi hc)

/-- A command behind the operand check, in a configured block. -/
theorem needOperandInRange_cases {s : State} {i : Instr} {r : Result} {t : State}
    (hi : NeedsOperandInRange i) (hc : s.cfgValid = true) (h : needOperandInRange s r = .next t) :
    (s.operand ≤ s.mask ∧ r = .next t) ∨ ExecCase s i t := by
  by_cases ho : s.operand ≤ s.mask
  · rw [needOperandInRange_of ho] at h; exact .inl ⟨ho, h⟩
  · have ho := (BitVec.not_le.mp ho)
    rw [needOperandInRange_above ho] at h
    cases h
    exact .inr (.operandRange hi hc ho)

/-- What a command can do: if it answers a next state, that state is one of the listed outcomes. -/
theorem exec_cases {i : Instr} {s t : State} (h : exec i s = .next t) : ExecCase s i t := by
  cases i with
  | nop => cases h; exact .nop
  | configure =>
    change (if stagingLegal s then ok s.configured else raiseError .badConfig s.deconfigured) = _ at h
    cases hl : stagingLegal s with
    | true => rw [hl, if_pos rfl] at h; cases h; exact .latched hl
    | false => rw [hl, if_neg (by simp)] at h; cases h; exact .deconfigured hl
  | buildTable =>
    obtain ⟨hc, h⟩ | h := needConfigured_cases (i := .buildTable) (by simp [NeedsConfig]) h
    · cases h; exact .built hc
    · exact h
  | start =>
    obtain ⟨hc, h⟩ | h := needConfigured_cases (i := .start) (by simp [NeedsConfig]) h
    · cases h; exact .started hc
    · exact h
  | resume =>
    obtain ⟨hc, h⟩ | h := needConfigured_cases (i := .resume) (by simp [NeedsConfig]) h
    · obtain ⟨ho, h⟩ | h := needOperandInRange_cases (i := .resume) (by simp [NeedsOperandInRange]) hc h
      · cases h; exact .resumed hc ho
      · exact h
    · exact h
  | updateSlow d =>
    obtain ⟨hc, h⟩ | h := needConfigured_cases (i := .updateSlow d) (by simp [NeedsConfig]) h
    · cases h; exact .slow d hc
    · exact h
  | updateFast d =>
    obtain ⟨hc, h⟩ | h := needConfigured_cases (i := .updateFast d) (by simp [NeedsConfig]) h
    · cases ht : s.tableValid with
      | true => rw [needTable_of ht] at h; cases h; exact .fast d hc ht
      | false => rw [needTable_absent ht] at h; cases h; exact .noTable d hc ht
    · exact h
  | finalizeOp =>
    obtain ⟨hc, h⟩ | h := needConfigured_cases (i := .finalizeOp) (by simp [NeedsConfig]) h
    · obtain ⟨ho, h⟩ | h := needOperandInRange_cases (i := .finalizeOp) (by simp [NeedsOperandInRange]) hc h
      · cases h; exact .finalized hc ho
      · exact h
    · exact h
  | unfinalizeOp =>
    obtain ⟨hc, h⟩ | h := needConfigured_cases (i := .unfinalizeOp) (by simp [NeedsConfig]) h
    · obtain ⟨ho, h⟩ | h := needOperandInRange_cases (i := .unfinalizeOp) (by simp [NeedsOperandInRange]) hc h
      · cases h; exact .unfinalized hc ho
      · exact h
    · exact h
  | reflectBits n =>
    change (if n.toNat ≤ 64 then _ else _) = _ at h
    by_cases hn : n.toNat ≤ 64
    · rw [if_pos hn] at h; cases h; exact .bits n hn
    · rw [if_neg hn] at h; cases h; exact .illegalBits n (by omega)
  | reflectBytes n =>
    change (if n.toNat ≤ 8 then _ else _) = _ at h
    by_cases hn : n.toNat ≤ 8
    · rw [if_pos hn] at h; cases h; exact .bytes n hn
    · rw [if_neg hn] at h; cases h; exact .illegalBytes n (by omega)
  | clearErr => cases h; exact .cleared

end Sys2Proof.Machine
end

