-- ==== Sys2Proof/Laws/HostPort.lean ====
section
/-! SUPPORT. Everything one access of the host can do, said once: a read, a write that is no command, a command,
an illegal word, or the reset event. -/

namespace Sys2Proof.Machine

open Sys2Proof.Safety

/-- The outcomes of `Execute(w)` (R120). -/
theorem executeWord_cases {w : Word} {s t : State} (h : executeWord w s = .next t) :
    (∃ i, decode w = some i ∧ ExecCase s i t) ∨ (decode w = none ∧ t = s.failed .illegal) := by
  unfold executeWord at h
  split at h
  · next i hi => exact .inl ⟨i, hi, exec_cases h⟩
  · next hn => cases h; exact .inr ⟨hn, rfl⟩

/-- A command always answers a next state. -/
theorem exec_total (i : Instr) (s : State) : ∃ t, exec i s = .next t := by
  cases i <;>
    simp only [exec, execNop, execConfigure, execBuildTable, execStart, execResume, execUpdateSlow,
      execUpdateFast, execFinalizeOp, execUnfinalizeOp, execReflectBits, execReflectBytes, execClearErr,
      needConfigured, needTable, needOperandInRange, ok_eq, raiseError_eq] <;>
    (repeat' split) <;> exact ⟨_, rfl⟩

/-- The outcomes of one access of the host (R82, R83, R89, R280). -/
inductive AccessCase (s : State) : HostAccess → State → Prop where
  | read {a : HostAccess} (i : RegIndex) (h : commandOf a = none) (hr : a ≠ .reset) :
      AccessCase s a (s.withRead (regRead i s))
  | stgCfg {a : HostAccess} (v : Word) (h : commandOf a = none) (hr : a ≠ .reset) :
      AccessCase s a (s.withStgCfg v)
  | stgPoly {a : HostAccess} (v : Word) (h : commandOf a = none) (hr : a ≠ .reset) :
      AccessCase s a (s.withStgPoly v)
  | stgInit {a : HostAccess} (v : Word) (h : commandOf a = none) (hr : a ≠ .reset) :
      AccessCase s a (s.withStgInit v)
  | stgXorout {a : HostAccess} (v : Word) (h : commandOf a = none) (hr : a ≠ .reset) :
      AccessCase s a (s.withStgXorout v)
  | operand {a : HostAccess} (v : Word) (h : commandOf a = none) (hr : a ≠ .reset) :
      AccessCase s a (s.withOperand v)
  | dropped {a : HostAccess} (h : commandOf a = none) (hr : a ≠ .reset) : AccessCase s a s
  | command {a : HostAccess} {t : State} (w : Word) (i : Instr) (h : commandOf a = some w)
      (hd : decode w = some i) (he : ExecCase s i t) : AccessCase s a t
  | illegal {a : HostAccess} (w : Word) (h : commandOf a = some w) (hd : decode w = none) :
      AccessCase s a (s.failed .illegal)
  | reset : AccessCase s .reset s.afterReset

/-- The outcomes of `RegWrite(i, v)` made by an access that carries a command exactly if `i` is CMD (R83, R85). -/
theorem regWrite_cases {a : HostAccess} {i : RegIndex} {v : Word} {s t : State}
    (ha : commandOf a = if i = cmdIndex then some v else none) (hr : a ≠ .reset)
    (h : regWrite i v s = .next t) : AccessCase s a t := by
  have hi : ∀ k, i.toNat = k → k ≠ 5 → i ≠ cmdIndex := by
    intro k hk hne heq
    subst heq
    exact hne (by rw [← hk]; rfl)
  unfold regWrite at h
  split at h
  · next hk => cases h; exact .stgCfg v (by rw [ha, if_neg (hi _ hk (by decide))]) hr
  · next hk => cases h; exact .stgPoly v (by rw [ha, if_neg (hi _ hk (by decide))]) hr
  · next hk => cases h; exact .stgInit v (by rw [ha, if_neg (hi _ hk (by decide))]) hr
  · next hk => cases h; exact .stgXorout v (by rw [ha, if_neg (hi _ hk (by decide))]) hr
  · next hk => cases h; exact .operand v (by rw [ha, if_neg (hi _ hk (by decide))]) hr
  · next hk =>
    have hc : i = cmdIndex := BitVec.eq_of_toNat_eq hk
    rw [if_pos hc] at ha
    obtain ⟨j, hj, he⟩ | ⟨hn, rfl⟩ := executeWord_cases h
    · exact .command v j ha hj he
    · exact .illegal v ha hn
  · next hne =>
    cases h
    exact .dropped (by rw [ha, if_neg (fun e => hne (by rw [e]; rfl))]) hr

/-- What one access of the host can do: if it answers a next state, that state is one of the listed outcomes. -/
theorem hostStep_cases {a : HostAccess} {s t : State} (h : hostStep a s = .next t) : AccessCase s a t := by
  cases a with
  | read i => cases h; exact .read i rfl (by simp)
  | write i v => exact regWrite_cases rfl (by simp) h
  | busRead addr size =>
    simp only [hostStep] at h
    split at h
    · cases h; exact .read _ rfl (by simp)
    · cases h
  | busWrite addr size v =>
    simp only [hostStep] at h
    split at h
    · next i hi => exact regWrite_cases (by simp [commandOf, hi]) (by simp) h
    · cases h
  | reset => cases h; exact .reset

/-- What one step can do (R91): the host's first pending access, or nothing if none is pending. -/
theorem step_cases {s t : State} (h : step s = .next t) :
    (s.pending = [] ∧ t = s) ∨
    ∃ a rest, s.pending = a :: rest ∧ AccessCase (s.withPending rest) a t := by
  unfold step nextAccess at h
  split at h
  · next hp => cases h; exact .inl ⟨hp, rfl⟩
  · next a rest hp => exact .inr ⟨a, rest, hp, hostStep_cases h⟩

end Sys2Proof.Machine
end

