-- ==== Sys2Proof/Laws/PerInstr.lean ====
section
/-! SUPPORT. What holds of each command as syntax, one lemma for each constructor: its word leaves the reserved
bits 63:23 zero (R110, R114). -/

namespace Sys2Proof.Laws

open Sys2Proof

/-- The command's word sets no reserved bit. -/
def EncodeRsvZero.Statement (i : Instr) : Prop := rsvOf (encode i) = 0

theorem EncodeRsvZero.nop : EncodeRsvZero.Statement .nop := rsvOf_assembleWord _ _ _
theorem EncodeRsvZero.configure : EncodeRsvZero.Statement .configure := rsvOf_assembleWord _ _ _
theorem EncodeRsvZero.buildTable : EncodeRsvZero.Statement .buildTable := rsvOf_assembleWord _ _ _
theorem EncodeRsvZero.start : EncodeRsvZero.Statement .start := rsvOf_assembleWord _ _ _
theorem EncodeRsvZero.resume : EncodeRsvZero.Statement .resume := rsvOf_assembleWord _ _ _
theorem EncodeRsvZero.updateSlow (data : Byte) : EncodeRsvZero.Statement (.updateSlow data) :=
  rsvOf_assembleWord _ _ _
theorem EncodeRsvZero.updateFast (data : Byte) : EncodeRsvZero.Statement (.updateFast data) :=
  rsvOf_assembleWord _ _ _
theorem EncodeRsvZero.finalizeOp : EncodeRsvZero.Statement .finalizeOp := rsvOf_assembleWord _ _ _
theorem EncodeRsvZero.unfinalizeOp : EncodeRsvZero.Statement .unfinalizeOp := rsvOf_assembleWord _ _ _
theorem EncodeRsvZero.reflectBits (n : BitVec 7) : EncodeRsvZero.Statement (.reflectBits n) :=
  rsvOf_assembleWord _ _ _
theorem EncodeRsvZero.reflectBytes (n : BitVec 7) : EncodeRsvZero.Statement (.reflectBytes n) :=
  rsvOf_assembleWord _ _ _
theorem EncodeRsvZero.clearErr : EncodeRsvZero.Statement .clearErr := rsvOf_assembleWord _ _ _

end Sys2Proof.Laws
end

