-- ==== Sys2Proof/Laws/Reflect.lean ====
section
/-! SUPPORT. The loops of the two reflections, bit by bit, after any number of rounds. -/

namespace Sys2Proof.Machine

/-- After `k` rounds of R220's loop, bit `i` of the result is bit `n−1−i` of the value if that bit was among the
first `k`, and 0 otherwise. -/
theorem getLsbD_reflectBitsRounds (v : Word) {n : Nat} (hn : n ≤ 64) (i : Nat) :
    ∀ k, k ≤ n → (reflectBitsRounds v n k).getLsbD i =
      (decide (i < n) && decide (n - 1 - i < k) && v.getLsbD (n - 1 - i))
  | 0, _ => by simp [reflectBitsRounds]
  | k + 1, hk => by
    have ih := getLsbD_reflectBitsRounds v hn i k (by omega)
    have hone : ((1 : Word) <<< (n - 1 - k)).getLsbD i = decide (i = n - 1 - k) := by
      have hlt : n - 1 - k < 64 := by omega
      by_cases hi : i = n - 1 - k
      · subst hi; simp [hlt]
      · by_cases hl : i < n - 1 - k
        · simp [hl, hi]
        · have : ¬ i - (n - 1 - k) = 0 := by omega
          simp [BitVec.getLsbD_one, hi, this]
    rw [reflectBitsRounds]
    have hstep : (n - 1 - i < k + 1) ↔ (n - 1 - i < k ∨ n - 1 - i = k) := by omega
    cases hv : v.getLsbD k with
    | false =>
      rw [if_neg (by simp), ih]
      by_cases hik : n - 1 - i = k
      · simp [hik, hv]
      · simp [hstep, hik]
    | true =>
      rw [if_pos rfl, BitVec.getLsbD_or, ih, hone]
      by_cases hik : n - 1 - i = k
      · by_cases hin : i < n
        · have : i = n - 1 - k := by omega
          simp [hik, hv, hin, ← this]
        · have : i ≠ n - 1 - k := by omega
          simp [hin, this]
      · have : i < n → i ≠ n - 1 - k := by omega
        by_cases hin : i < n
        · simp [hstep, hik, hin, this hin]
        · have : i ≠ n - 1 - k := by omega
          simp [hin, this]

/-- After `m` rounds of R221's loop, byte `j` of the result is byte `n−1−j` of the value if that byte was among
the first `m`, and 0 otherwise. -/
theorem getLsbD_reflectBytesRounds (v : Word) {n : Nat} (hn : n ≤ 8) (j k : Nat) (hk : k < 8) :
    ∀ m, m ≤ n → (reflectBytesRounds v n m).getLsbD (8 * j + k) =
      (decide (j < n) && decide (n - 1 - j < m) && v.getLsbD (8 * (n - 1 - j) + k))
  | 0, _ => by simp [reflectBytesRounds]
  | m + 1, hm => by
    have ih := getLsbD_reflectBytesRounds v hn j k hk m (by omega)
    rw [reflectBytesRounds, BitVec.getLsbD_or, ih]
    rcases Nat.lt_trichotomy j (n - 1 - m) with h | h | h
    · have h1 : 8 * j + k < 8 * (n - 1 - m) := by omega
      have h2 : ¬ n - 1 - j < m + 1 := by omega
      have h3 : ¬ n - 1 - j < m := by omega
      simp [h1, h2, h3]
    · have h1 : ¬ 8 * j + k < 8 * (n - 1 - m) := by omega
      have h2 : 8 * j + k - 8 * (n - 1 - m) = k := by omega
      have h3 : n - 1 - j = m := by omega
      have h4 : j < n := by omega
      have h5 : 8 * j + k < 64 := by omega
      simp [h1, h2, h3, h4, h5, hk]
    · have h1 : ¬ 8 * j + k < 8 * (n - 1 - m) := by omega
      have h2 : 8 ≤ 8 * j + k - 8 * (n - 1 - m) := by omega
      have h3 : j < n → (n - 1 - j < m + 1 ↔ n - 1 - j < m) := by omega
      have h4 : ¬ 8 * j + k - 8 * (n - 1 - m) < 8 := by omega
      by_cases hj : j < n <;> simp [h1, h4, hj, h3]

end Sys2Proof.Machine
end

