-- ==== Sys2Proof/Laws/Run.lean ====
section
/-! SUPPORT. Runs of several steps, cut at a step and put together, and what one step does with a pending
command line. -/

namespace Sys2Proof.Machine

open Sys2Proof.Safety

theorem runs_zero (s : State) : runs 0 s s := rfl

/-- One step, then a run. -/
theorem runs_succ {k : Nat} {s t u : State} (h : step s = .next t) (hr : runs k t u) : runs (k + 1) s u :=
  ⟨t, h, hr⟩

/-- The host's run of its Core record is the same run. -/
theorem coreRun_of_runs : ∀ {k : Nat} {s t : State}, runs k s t → Host.Core.run Sys2Proof.core k s = .next t
  | 0, _, _, h => by cases h; rfl
  | k + 1, s, t, ⟨u, hu, hr⟩ => by
    have hs : Sys2Proof.core.step s = .next u := hu
    refine (Host.Core.run.eq_2 Sys2Proof.core s k).trans ?_
    rw [hs]
    exact coreRun_of_runs hr

/-- A run, then a run. -/
theorem runs_add {j k : Nat} {s t u : State} (h : runs j s t) (hr : runs k t u) : runs (j + k) s u := by
  induction j generalizing s with
  | zero => cases h; rw [Nat.zero_add]; exact hr
  | succ j ih =>
    obtain ⟨v, hv, hj⟩ := h
    rw [Nat.succ_add]
    exact runs_succ hv (ih hj)

/-- A run of `j + k` steps passes through the state after `j` of them. -/
theorem exists_middle_of_runs_add {j k : Nat} {s u : State} (h : runs (j + k) s u) :
    ∃ t, runs j s t ∧ runs k t u := by
  induction j generalizing s with
  | zero => exact ⟨s, rfl, by rwa [Nat.zero_add] at h⟩
  | succ j ih =>
    rw [Nat.succ_add] at h
    obtain ⟨v, hv, hr⟩ := h
    obtain ⟨t, ht, hk⟩ := ih hr
    exact ⟨t, runs_succ hv ht, hk⟩

/-- A pending write of a word to CMD: the step executes the word (R43). -/
theorem step_of_cmd_write {s : State} {w : Word} {rest : List HostAccess}
    (hp : s.pending = .write cmdIndex w :: rest) : step s = executeWord w (s.withPending rest) := by
  simp only [step, nextAccess, hp, hostStep]
  rfl

end Sys2Proof.Machine
end

