-- ==== Sys2Proof/Laws/Table.lean ====
section
/-! SUPPORT. What BUILD_TABLE leaves in the table RAM, and what a table entry depends on. -/

namespace Sys2Proof.Machine

/-- Every entry of the built table is its TableEntry (R191). -/
theorem memRead_builtTable (s : State) (i : EntryIndex) : memRead (builtTable s) i = tableEntry s i := by
  have h := memRead_fillTable (tableEntry s) s.table i 256 (le_refl _)
  rw [if_pos (show i.toNat < 256 from i.isLt)] at h
  unfold builtTable
  exact h

/-- A table entry depends on four registers of the state and on nothing else (R192). -/
theorem tableEntry_congr {s t : State} (hm : s.mask = t.mask) (hb : s.topbit = t.topbit)
    (hp : s.aPoly = t.aPoly) (ha : s.aBits = t.aBits) (i : EntryIndex) : tableEntry s i = tableEntry t i := by
  simp only [tableEntry, div8, topByteShift, ha]
  exact divRounds_congr hm hb hp _ _

end Sys2Proof.Machine
end

