-- ==== Sys2Proof/Tests/Slice0.lean ====
section
/-! SUPPORT. Small tests, their expected values from spec/95_test_vectors.md and the rules' own examples; and, for
each statement with hypotheses, a witness: a concrete state and operands that meet them together. -/

namespace Sys2Proof.Tests

open Sys2Proof Sys2Proof.Machine Sys2Proof.Safety

/-! ## Helpers -/

/-- What a next state holds, `none` if there is none. -/
def after {α : Type} (r : Result) (f : State → α) : Option α :=
  match r with
  | .next s => some (f s)
  | .fault _ => none
  | .refused _ => none

/-- The reset state with these staging values. -/
def staged (cfg : BitVec 11) (poly init xorout : Word) : State :=
  { State.reset with stgCfg := cfg, stgPoly := poly, stgInit := init, stgXorout := xorout }

/-- The state CONFIGURE leaves with these staging values, if they are legal. -/
def configuredBy (cfg : BitVec 11) (poly init xorout : Word) : State := (staged cfg poly init xorout).configured

/-- The reference configurations of 95_test_vectors.md section 1, and its 8-, 12- and 63-bit ones. -/
def crc32 : State := configuredBy 0x320 0x04C11DB7 0xFFFFFFFF 0xFFFFFFFF
/-- CRC-CCITT Kermit. -/
def kermit : State := configuredBy 0x710 0x1021 0 0
/-- CRC-DNP. -/
def dnp : State := configuredBy 0x710 0x3D65 0 0xFFFF
/-- CRC-CCITT, INIT = 0xFFFF. -/
def ccitt : State := configuredBy 0x010 0x1021 0xFFFF 0
/-- The 8-bit configuration with POLY 0x07. -/
def narrow : State := configuredBy 0x008 0x07 0 0
/-- The 12-bit configuration. -/
def twelve : State := configuredBy 0x00C 0x80F 0 0
/-- The widest configuration, with the largest values. -/
def wide : State := configuredBy 0x03F 0x7FFFFFFFFFFFFFFF 0x7FFFFFFFFFFFFFFF 0x7FFFFFFFFFFFFFFF
/-- CRC-32 with its table built. -/
def crc32Built : State := crc32.withTable (builtTable crc32)
/-- The 8-bit configuration with its table built. -/
def narrowBuilt : State := narrow.withTable (builtTable narrow)

/-! ## Well-formedness -/

theorem test_wf_reflectBits_64 : (Instr.reflectBits 64).wellFormed = true := by decide
theorem test_illformed_reflectBits_65 : (Instr.reflectBits 65).wellFormed = false := by decide
theorem test_wf_reflectBytes_8 : (Instr.reflectBytes 8).wellFormed = true := by decide
theorem test_illformed_reflectBytes_9 : (Instr.reflectBytes 9).wellFormed = false := by decide

/-! ## Decoding: the words of sections 3.1 to 3.7, and of each rule's "Encoding" -/

theorem test_decode_control :
    decode 0x0000000000000000 = some .nop ∧ decode 0x0000000000000001 = some .configure ∧
    decode 0x0000000000000003 = some .start ∧ decode 0x0000000000000004 = some .resume ∧
    decode 0x000000000000000B = some .clearErr := by decide

theorem test_decode_bitwise :
    decode 0x0000000000003105 = some (.updateSlow 0x31) ∧ decode 0x0000000000004105 = some (.updateSlow 0x41) := by
  decide

theorem test_decode_table :
    decode 0x0000000000000002 = some .buildTable ∧ decode 0x0000000000003106 = some (.updateFast 0x31) := by
  decide

theorem test_decode_reflect_finalize :
    decode 0x0000000000000007 = some .finalizeOp ∧ decode 0x0000000000000008 = some .unfinalizeOp ∧
    decode 0x0000000000400009 = some (.reflectBits 64) ∧ decode 0x0000000000080009 = some (.reflectBits 8) ∧
    decode 0x000000000008000A = some (.reflectBytes 8) := by decide

/-- The words of section 3.7. -/
theorem test_decode_illegal :
    decode 0x000000000000000C = none ∧ decode 0x00000000000000FF = none ∧ decode 0x0000000000013105 = none ∧
    decode 0x0000000000000100 = none ∧ decode 0x0000000000010000 = none ∧ decode 0x0000000000010003 = none ∧
    decode 0x0000000000800000 = none ∧ decode 0x8000000000000000 = none ∧ decode 0x0000000000410009 = none ∧
    decode 0x000000000009000A = none ∧ decode 0x0000000000000109 = none ∧ decode 0x000000000000010B = none := by
  decide

theorem test_decodeTableWord_pads_with_zeros :
    decodeTableWord 8 0xFF05 = some (.updateSlow 0) ∧ decodeTableWord 64 0x3105 = some (.updateSlow 0x31) := by
  decide

/-! ## One command -/

theorem test_nop_status : after (exec .nop { crc32 with lastErr := 4, errSticky := true }) (regRead 0x008)
    = some 0x005 := by decide
theorem test_configure_wide :
    after (exec .configure (staged 0x03F 0x7FFFFFFFFFFFFFFF 0 0)) (fun t => (t.mask, t.topbit, t.nbytes))
    = some (0x7FFFFFFFFFFFFFFF, 0x4000000000000000, 7) := by decide
theorem test_configure_refuses_unaligned_bytes :
    after (exec .configure { twelve with stgCfg := 0x40C }) (fun t => (regRead 0x008 t, t.mask, t.aPoly))
    = some (0x304, 0, 0) := by decide
theorem test_start : after (exec .start { crc32 with acc := 0x9B63D02C }) (fun t => (t.acc, regRead 0x011 t))
    = some (0xFFFFFFFF, 0) := by decide
theorem test_start_unconfigured : after (exec .start State.reset) (regRead 0x008) = some 0x204 := by decide
theorem test_resume : after (exec .resume { crc32 with operand := 0xCBF43926 }) State.acc = some 0x9B63D02C := by
  decide
theorem test_resume_range :
    after (exec .resume { ccitt with operand := 0x10000 }) (fun t => (regRead 0x008 t, t.acc))
    = some (0x505, 0xFFFF) := by decide
theorem test_updateSlow_reflected : after (exec (.updateSlow 0x41) crc32) State.acc = some 0x2E866434 := by decide
theorem test_updateSlow_63_bits :
    after (exec (.updateSlow 0x80) (configuredBy 0x03F 0x3 0 0)) State.acc = some 0x180 := by decide
theorem test_tableEntry : tableEntry crc32 0x80 = 0x690CE0EE ∧ tableEntry (configuredBy 0x03F 0x3 0 0) 0xFF = 0x101 := by
  decide
theorem test_buildTable_window :
    after (exec .buildTable crc32) (fun t => (regRead 0x173 t, regRead 0x008 t)) = some (0xEDF73B3E, 0x003) := by
  decide +kernel
theorem test_updateFast :
    after (exec (.updateFast 0x31) crc32Built) State.acc = some 0x1208C43E := by decide +kernel
theorem test_updateFast_no_table : after (exec (.updateFast 0x41) ccitt) (regRead 0x008) = some 0x405 := by decide
theorem test_finalizeOp : after (exec .finalizeOp { dnp with operand := 0x1234 }) State.auxout = some 0xB7D3 := by
  decide
theorem test_finalizeOp_range :
    after (exec .finalizeOp { twelve with operand := 0x1000 }) (regRead 0x008) = some 0x505 := by decide
theorem test_unfinalizeOp : after (exec .unfinalizeOp { dnp with operand := 0x82EA }) State.auxout = some 0xBEA8 := by
  decide
theorem test_reflectBits_64 :
    after (exec (.reflectBits 64) { State.reset with operand := 0x0123456789ABCDEF }) State.auxout
    = some 0xF7B3D591E6A2C480 := by decide
theorem test_reflectBits_63 :
    after (exec (.reflectBits 63) { State.reset with operand := 0x8000000000000000 }) State.auxout = some 0 := by
  decide
theorem test_reflectBytes_8 :
    after (exec (.reflectBytes 8) { State.reset with operand := 0x0102030405060708 }) State.auxout
    = some 0x0807060504030201 := by decide
theorem test_reflectBytes_2 :
    after (exec (.reflectBytes 2) { State.reset with operand := 0xAABB1234 }) State.auxout = some 0x3412 := by decide
theorem test_clearErr :
    after (exec .clearErr { State.reset with errSticky := true, lastErr := 2 }) (regRead 0x008) = some 0 := by decide

/-! ## Host accesses -/

theorem test_cfg_write_masks :
    after (regWrite 0x000 0xFFFFFFFFFFFFFFFF State.reset) (regRead 0x000) = some 0x73F := by decide
theorem test_unmapped_and_readonly :
    regRead 0x007 crc32 = 0 ∧ regRead 0x013 crc32 = 0 ∧ after (regWrite 0x010 1 crc32) State.acc = some 0xFFFFFFFF := by
  decide
theorem test_illegal_before_not_configured :
    after (regWrite 0x005 0x13105 State.reset) (regRead 0x008) = some 0x104 := by decide
theorem test_step_runs_fetch_word :
    after (step (State.reset.withFetchWord 64 0x4106)) (fun t => (regRead 0x008 t, t.pending)) = some (0x204, []) := by
  decide

/-! ## Assembler text (R121 to R128) -/

theorem test_line_command :
    assembleLine "UPDATE_SLOW '1'          ; word 0x3105".toList = some [.write 0x005 0x3105] := by decide
theorem test_line_setcfg :
    assembleLine "SETCFG 32, 0x04C11DB7, 0xFFFFFFFF, 0xFFFFFFFF, 1, 1, 0".toList =
      some [.write 0x000 0x320, .write 0x001 0x04C11DB7, .write 0x002 0xFFFFFFFF, .write 0x003 0xFFFFFFFF,
        .write 0x005 0x1] := by decide
theorem test_line_table_window : assembleLine "RD TABLE[0x8C]".toList = some [.read 0x18C] := by decide

/-! ## Witnesses: ready states -/

theorem narrow_ready : Ready narrow :=
  ⟨⟨by unfold StagingReservedZero; decide, by unfold ActiveLegal; decide, by unfold ActiveZeroWhenAbsent; decide,
    by unfold DerivedAgree; decide, by unfold AccInRange; decide, fun h => absurd h (by decide),
    by unfold ErrorRecordSound; decide⟩, rfl⟩

theorem wide_ready : Ready wide :=
  ⟨⟨by unfold StagingReservedZero; decide, by unfold ActiveLegal; decide, by unfold ActiveZeroWhenAbsent; decide,
    by unfold DerivedAgree; decide, by unfold AccInRange; decide, fun h => absurd h (by decide),
    by unfold ErrorRecordSound; decide⟩, rfl⟩

theorem crc32_ready : Ready crc32 :=
  ⟨⟨by unfold StagingReservedZero; decide, by unfold ActiveLegal; decide, by unfold ActiveZeroWhenAbsent; decide,
    by unfold DerivedAgree; decide, by unfold AccInRange; decide, fun h => absurd h (by decide),
    by unfold ErrorRecordSound; decide⟩, rfl⟩

/-- A table write under the configuration keeps a state ready. -/
theorem ready_built {s : State} (h : Ready s) : Ready (s.withTable (builtTable s)) :=
  ⟨⟨h.1.staging, h.1.legal, h.1.absent, h.1.derived, h.1.acc,
    fun _ => ⟨h.2, fun i => memRead_builtTable s i⟩, h.1.errors⟩, h.2⟩

/-- The model's own fields and OPERAND are free in a ready state. -/
theorem ready_with {s : State} (h : Ready s) (v : Word) (p : List HostAccess) :
    Ready { s with operand := v, pending := p } :=
  ⟨⟨h.1.staging, h.1.legal, h.1.absent, h.1.derived, h.1.acc, h.1.table, h.1.errors⟩, h.2⟩

theorem crc32Built_ready : Ready crc32Built := ready_built crc32_ready
theorem narrowBuilt_ready : Ready narrowBuilt := ready_built narrow_ready

theorem crc32_active : Crc32Active crc32 := by unfold Crc32Active ActiveIs; decide
theorem crc32Built_active : Crc32Active crc32Built := by
  have h := crc32_active
  simpa [Crc32Active, ActiveIs, crc32Built] using h

/-! ## Witnesses of the statements about encodings -/

theorem witness_DecodeOfEncodeIsSame :
    (Instr.updateSlow 0xFF).wellFormed = true ∧ (Instr.reflectBits 0).wellFormed = true ∧
    (Instr.reflectBits 64).wellFormed = true ∧ (Instr.reflectBytes 8).wellFormed = true := by decide

theorem witness_EncodeOfDecodeIsSame : decode 0x400009 = some (.reflectBits 64) ∧ decode 0 = some .nop := by decide

/-- One word for each item of R117, at the edges of its range. -/
theorem witness_IllegalWordsRaiseIllegalOnly :
    IllegalFields 0x800000 ∧ IllegalFields 0x8000000000000000 ∧ IllegalFields 0x0C ∧ IllegalFields 0xFF ∧
    IllegalFields 0x100 ∧ IllegalFields 0x10000 ∧ IllegalFields 0x13105 ∧ IllegalFields 0x410009 ∧
    IllegalFields 0x9000A ∧ IllegalFields 0x109 ∧ ¬ IllegalFields 0x0B := by
  refine ⟨?_, ?_, ?_, ?_, ?_, ?_, ?_, ?_, ?_, ?_, ?_⟩ <;> dsimp only [IllegalFields] <;> decide

theorem witness_OpcodeRowsSelectDecodedWords :
    ∃ r ∈ opcodeTable, r.mnemonic = "REFLECT_BITS" ∧ r.selects 0x400009 = true ∧ r.selects 0x410009 = false := by
  decide

/-! ## Witnesses of the statements about the step and the accesses -/

theorem witness_StepRunsDecodedCommand :
    (State.reset.withPending [.write 0x005 0x3105]).pending = .write 0x005 0x3105 :: [] ∧
    decode 0x3105 = some (.updateSlow 0x31) := by decide

theorem witness_StepTakesTheNextAccess :
    (State.reset.withPending [.reset, .read 0]).pending = .reset :: [.read 0] ∧ State.reset.pending = [] ∧
    ∃ t, hostStep .reset crc32 = .next t := ⟨rfl, rfl, _, rfl⟩

theorem witness_ReadsAreFreeOfSideEffects :
    (∃ t, hostStep (.read 0x1FF) crc32Built = .next t) ∧
    ((0x000 : RegIndex) ≠ 0x005 ∧ ∃ t, regWrite 0x000 0x73F State.reset = .next t) := ⟨⟨_, rfl⟩, by decide, _, rfl⟩

theorem witness_StagingAndOperandWrites :
    (∃ t, executeWord 0x00 crc32 = .next t) ∧ ∃ t, hostStep .reset crc32 = .next t := ⟨⟨_, rfl⟩, _, rfl⟩

theorem witness_UnmappedAndReadOnlyAccesses :
    6 ≤ (0x006 : RegIndex).toNat ∧ 6 ≤ (0x1FF : RegIndex).toNat ∧
    0x013 ≤ (0x013 : RegIndex).toNat ∧ (0x0FF : RegIndex).toNat ≤ 0x0FF ∧ StagingReservedZero crc32 :=
  ⟨by decide, by decide, by decide, by decide, crc32_ready.1.staging⟩

theorem witness_StatusLayout : ∃ t, hostStep .reset crc32 = .next t := ⟨_, rfl⟩

theorem witness_TableWindowReads :
    (0x100 : RegIndex).toNat = 0x100 + (0x00 : EntryIndex).toNat ∧
    (0x1FF : RegIndex).toNat = 0x100 + (0xFF : EntryIndex).toNat ∧
    crc32Built.tableValid = true ∧ crc32.tableValid = false := by decide

theorem witness_ResultViewReads : crc32.cfgValid = true ∧ State.reset.cfgValid = false := by decide

/-- The first and the last register, an access too short, one past the last register and one between two. -/
theorem witness_BusAdmitsWholeRegistersOnly :
    (Config.base = Config.base + 8 * (0 : RegIndex).toNat) ∧
    (Config.base + 4088 = Config.base + 8 * (511 : RegIndex).toNat) ∧ (4 : Nat) ≠ 8 ∧
    (∀ i : RegIndex, Config.base + 4096 ≠ Config.base + 8 * i.toNat) ∧
    (∀ i : RegIndex, Config.base + 1 ≠ Config.base + 8 * i.toNat) :=
  ⟨rfl, rfl, by decide, fun i => by have := i.isLt; omega, fun i => by omega⟩

/-! ## Witnesses of the statements about the control commands -/

/-- CRC-32 with STATUS = 0x405. -/
def crc32NoTable : State := { crc32 with lastErr := 4, errSticky := true }

theorem witness_NopResult : regRead 0x008 crc32NoTable = 0x405 ∧
    ((0x100 : Word).extractLsb' 0 8).toNat = 0x00 ∧ ¬ ((0x100 : Word) = 0) := by decide

theorem witness_ConfigureLatchesLegalStaging :
    StagingLegal (staged 0x008 0xFF 0 0) ∧ StagingLegal (staged 0x408 0x07 0 0) ∧
    StagingLegal (staged 0x03F 0x7FFFFFFFFFFFFFFF 0x7FFFFFFFFFFFFFFF 0x7FFFFFFFFFFFFFFF) := by
  unfold StagingLegal; decide

theorem witness_ConfigureRefusesIllegalStaging :
    ¬ StagingLegal State.reset ∧ ¬ StagingLegal (staged 0x007 0x07 0 0) ∧ ¬ StagingLegal (staged 0x40C 0x80F 0 0) ∧
    ¬ StagingLegal (staged 0x010 0x1021 0x10000 0) ∧ NeedsConfig .start := by
  unfold StagingLegal NeedsConfig; decide

theorem witness_StartResult :
    crc32.cfgValid = true ∧ State.reset.cfgValid = false ∧
    (∃ t, exec .configure (staged 0x320 0x04C11DB7 0xFFFFFFFF 0xFFFFFFFF) = .next t ∧ t.cfgValid = true) ∧
    (Crc32Active { crc32 with acc := 0x9B63D02C } ∧ ({ crc32 with acc := 0x9B63D02C } : State).acc = 0x9B63D02C) ∧
    (((0x10003 : Word).extractLsb' 0 8).toNat = 0x03 ∧ ¬ ((0x10003 : Word) = 3)) :=
  ⟨rfl, rfl, ⟨_, rfl, rfl⟩, ⟨crc32_active, rfl⟩, by decide⟩

theorem witness_ResumeResult :
    (∃ s : State, Ready s ∧ s.operand = s.mask ∧ s.operand ≤ s.mask ∧ ∃ t, exec .resume s = .next t) ∧
    (∃ s : State, s.cfgValid = true ∧ s.mask < s.operand) ∧ State.reset.cfgValid = false ∧
    (∃ s t : State, Ready s ∧ s.operand = 0 ∧ s.aXorout ≠ 0 ∧ exec .resume s = .next t) ∧
    (∃ s : State, KermitActive s ∧ s.operand = 0x3288) ∧
    (((0x104 : Word).extractLsb' 0 8).toNat = 0x04 ∧ ¬ ((0x104 : Word) = 4)) :=
  ⟨⟨{ wide with operand := wide.mask, pending := [] }, ready_with wide_ready _ _, rfl, by decide, _, rfl⟩,
    ⟨{ crc32 with operand := 0x100000000 }, rfl, by decide⟩, rfl,
    ⟨{ crc32 with operand := 0, pending := [] }, _, ready_with crc32_ready _ _, rfl, by decide, rfl⟩,
    ⟨{ kermit with operand := 0x3288 }, by unfold KermitActive ActiveIs; decide, rfl⟩, by decide⟩

theorem witness_ClearErrResult :
    regRead 0x008 { crc32 with lastErr := 5, errSticky := true } = 0x505 ∧
    ((0x10B : Word).extractLsb' 0 8).toNat = 0x0B ∧ ¬ ((0x10B : Word) = 0x0B) := by decide

/-! ## Witnesses of the statements about the two engines -/

theorem witness_UpdateSlowResult :
    crc32.cfgValid = true ∧ State.reset.cfgValid = false ∧ Ready narrow ∧ narrow.aBits = 8 ∧ crc32.aRefin = true ∧
    (Ready crc32Built ∧ crc32Built.tableValid = true) ∧ (Crc32Active crc32 ∧ crc32.acc = 0xFFFFFFFF) ∧
    (((0x13105 : Word).extractLsb' 0 8).toNat = 0x05 ∧ ¬ ((0x13105 : Word).extractLsb' 16 7 = 0)) :=
  ⟨rfl, rfl, narrow_ready, rfl, rfl, ⟨crc32Built_ready, rfl⟩, ⟨crc32_active, rfl⟩, by decide⟩

theorem witness_SlowStepIsPolynomialRemainder : Ready wide ∧ wide.mask ≤ wide.mask ∧ Ready narrow ∧ 0 ≤ narrow.mask :=
  ⟨wide_ready, by decide, narrow_ready, by decide⟩

theorem witness_DivisionStaysInRange :
    Ready wide ∧ wide.mask ≤ wide.mask ∧ ∃ t, exec (.updateSlow 0xFF) wide = .next t :=
  ⟨wide_ready, by decide, _, rfl⟩

theorem witness_DivisionIsLinear : Ready narrow ∧ (0x80 : Word) ≤ narrow.mask ∧ narrow.mask ≤ narrow.mask :=
  ⟨narrow_ready, by decide, by decide⟩

theorem witness_FeedSlowFoldsMessage :
    ∃ (m : List Byte) (s : State), s.cfgValid = true ∧ m ≠ [] ∧ s.pending = feedSlow m ++ [.read 0x011] :=
  ⟨[0x31, 0x32], crc32.withPending (feedSlow [0x31, 0x32] ++ [.read 0x011]), rfl, by decide, rfl⟩

theorem witness_ComputeSlowReturnsFinalizedRemainder :
    ∃ s : State, s.cfgValid = true ∧ s.pending = computeSlow [] ++ [] :=
  ⟨crc32.withPending (computeSlow []), rfl, rfl⟩

theorem witness_ResumedMessageContinues :
    ∃ s : State, Ready s ∧
      s.pending = resumeFrom (finalized s (accAfter s s.aInit [0x31])) ++ feedSlow [0x32] ++ [] :=
  ⟨{ crc32 with
      operand := 0
      pending := resumeFrom (finalized crc32 (accAfter crc32 crc32.aInit [0x31])) ++ feedSlow [0x32] ++ [] },
    ready_with crc32_ready _ _, rfl⟩

theorem witness_EmptyMessageResult :
    (∃ t, exec .configure (staged 0x010 0x1021 0xFFFF 0) = .next t ∧ t.cfgValid = true) ∧
    (ccitt.cfgValid = true ∧ ∃ t, exec .start ccitt = .next t) ∧ Crc32Active crc32 ∧
    ActiveIs ccitt 0x010 0x1021 0xFFFF 0 :=
  ⟨⟨_, rfl, rfl⟩, ⟨rfl, _, rfl⟩, crc32_active, by unfold ActiveIs; decide⟩

/-- The 8-bit configuration with POLY = 0, which is legal (R142). -/
def zeroPoly : State := configuredBy 0x008 0 0 0

theorem zeroPoly_ready : Ready zeroPoly :=
  ⟨⟨by unfold StagingReservedZero; decide, by unfold ActiveLegal; decide, by unfold ActiveZeroWhenAbsent; decide,
    by unfold DerivedAgree; decide, by unfold AccInRange; decide, fun h => absurd h (by decide),
    by unfold ErrorRecordSound; decide⟩, rfl⟩

theorem witness_BuildTableResult :
    crc32.cfgValid = true ∧ State.reset.cfgValid = false ∧ (Ready crc32Built ∧ crc32Built.tableValid = true) ∧
    (Ready zeroPoly ∧ zeroPoly.aPoly = 0) ∧ (Crc32Active crc32 ∧ crc32.errSticky = false) ∧
    (((0x102 : Word).extractLsb' 0 8).toNat = 0x02 ∧ ¬ ((0x102 : Word) = 2)) :=
  ⟨rfl, rfl, ⟨crc32Built_ready, rfl⟩, ⟨zeroPoly_ready, rfl⟩, ⟨crc32_active, rfl⟩, by decide⟩

theorem witness_TableEntriesOfEveryConfiguration : Ready narrow ∧ Ready wide := ⟨narrow_ready, wide_ready⟩

/-- Two configurations that differ in REFIN, INIT and XOROUT only. -/
theorem witness_TableDependsOnlyOnWidthAndPolynomial :
    (∃ s t : State, Ready s ∧ Ready t ∧ s.aBits = t.aBits ∧ s.aPoly = t.aPoly) ∧
    ∃ t, exec .configure crc32Built = .next t := by
  refine ⟨⟨narrow, configuredBy 0x308 0x07 0xFF 0x55, narrow_ready, ?_, rfl, rfl⟩, ?_⟩
  · exact ⟨⟨by unfold StagingReservedZero; decide, by unfold ActiveLegal; decide,
      by unfold ActiveZeroWhenAbsent; decide, by unfold DerivedAgree; decide, by unfold AccInRange; decide,
      fun h => absurd h (by decide), by unfold ErrorRecordSound; decide⟩, rfl⟩
  · exact exec_total _ _

theorem witness_UpdateFastResult :
    (crc32Built.cfgValid = true ∧ crc32Built.tableValid = true) ∧
    (crc32.cfgValid = true ∧ crc32.tableValid = false) ∧ State.reset.cfgValid = false ∧
    (Ready narrowBuilt ∧ narrowBuilt.tableValid = true ∧ narrowBuilt.aBits = 8) ∧
    (Ready crc32Built ∧ Crc32Active crc32Built ∧ crc32Built.tableValid = true ∧ crc32Built.acc = 0xFFFFFFFF) ∧
    (((0x13106 : Word).extractLsb' 0 8).toNat = 0x06 ∧ ¬ ((0x13106 : Word).extractLsb' 16 7 = 0)) :=
  ⟨⟨rfl, rfl⟩, ⟨rfl, rfl⟩, rfl, ⟨narrowBuilt_ready, rfl, rfl⟩,
    ⟨crc32Built_ready, crc32Built_active, rfl, rfl⟩, by decide⟩

theorem witness_FastStepEqualsSlowStep :
    (Ready crc32Built ∧ crc32Built.tableValid = true ∧ (0xFFFFFFFF : Word) ≤ crc32Built.mask) ∧
    ∃ (m : List (Bool × Byte)) (s : State), Ready s ∧ s.tableValid = true ∧ m ≠ [] ∧
      s.pending = m.map (fun b => command (if b.1 then .updateFast b.2 else .updateSlow b.2)) ++ [] :=
  ⟨⟨crc32Built_ready, rfl, by decide⟩, [(true, 0x31), (false, 0x32)],
    { crc32Built with
      operand := 0
      pending := [command (.updateFast 0x31), command (.updateSlow 0x32)] },
    ready_with crc32Built_ready _ _, rfl, by decide, rfl⟩

theorem witness_BuildTableIsIdempotent :
    (∃ t u : State, crc32.cfgValid = true ∧ SameActive crc32 t ∧ exec .buildTable crc32 = .next u ∧
      SameTableRam u t ∧ t.tableValid = true) ∧
    ∃ s : State, s.cfgValid = true ∧ s.pending = List.replicate (1 + 1) (command .buildTable) ++ [] := by
  refine ⟨⟨crc32Built.succeeded, crc32Built.succeeded, rfl, ?_, rfl, fun _ => rfl, rfl⟩, ?_⟩
  · exact ⟨rfl, rfl, rfl, rfl, rfl, rfl, rfl, rfl, rfl, rfl, rfl⟩
  · exact ⟨crc32.withPending [command .buildTable, command .buildTable], rfl, rfl⟩

theorem witness_ComputeFastReturnsSlowResult :
    ∃ s : State, Ready s ∧ s.pending = computeFast [0x31] ++ [.read 0x008] :=
  ⟨{ crc32 with operand := 0, pending := computeFast [0x31] ++ [.read 0x008] }, ready_with crc32_ready _ _, rfl⟩

/-! ## Witnesses of the statements about reflection and finalize -/

theorem witness_ReflectionMovesBitsAndBytes : (64 : Nat) ≤ 64 ∧ (8 : Nat) ≤ 8 ∧ (7 : Nat) < 8 := by decide

theorem witness_ReflectionsAreInvolutions : (64 : Nat) ≤ 64 ∧ (8 : Nat) ≤ 8 := by decide

theorem witness_ReflectBitsResult :
    (64 : BitVec 7).toNat ≤ 64 ∧ 64 < (65 : BitVec 7).toNat ∧
    ({ State.reset with operand := 0x12345678 } : State).operand = 0x12345678 ∧
    ((0x410009 : Word).extractLsb' 0 8).toNat = 0x09 ∧ ¬ (((0x410009 : Word).extractLsb' 16 7).toNat ≤ 64) := by
  decide

theorem witness_ReflectBytesResult :
    (8 : BitVec 7).toNat ≤ 8 ∧ 8 < (9 : BitVec 7).toNat ∧
    ({ State.reset with operand := 0x12345678 } : State).operand = 0x12345678 ∧
    ({ State.reset with operand := 0x123456 } : State).operand = 0x123456 ∧
    ((0x9000A : Word).extractLsb' 0 8).toNat = 0x0A ∧ ¬ (((0x9000A : Word).extractLsb' 16 7).toNat ≤ 8) := by
  decide

theorem witness_FinalizeRoundTrip : Ready crc32 ∧ (0xFFFFFFFF : Word) ≤ crc32.mask := ⟨crc32_ready, by decide⟩

theorem witness_FinalizeStaysInRange : Ready crc32 ∧ (0xFFFFFFFF : Word) ≤ crc32.mask := ⟨crc32_ready, by decide⟩

theorem witness_FinalizeOpResult :
    (∃ s : State, s.cfgValid = true ∧ s.operand = s.mask ∧ s.operand ≤ s.mask) ∧
    (∃ s : State, s.cfgValid = true ∧ s.mask < s.operand) ∧ State.reset.cfgValid = false ∧
    (twelve.aRefoutBits = false ∧ twelve.aRefoutBytes = false ∧ twelve.aXorout = 0) ∧
    (∃ s : State, Crc32Active s ∧ s.operand = 0x9B63D02C) ∧
    (((0x107 : Word).extractLsb' 0 8).toNat = 0x07 ∧ ¬ ((0x107 : Word) = 7)) :=
  ⟨⟨{ crc32 with operand := 0xFFFFFFFF }, rfl, by decide, by decide⟩,
    ⟨{ crc32 with operand := 0x100000000 }, rfl, by decide⟩, rfl, by decide,
    ⟨{ crc32 with operand := 0x9B63D02C }, crc32_active, rfl⟩, by decide⟩

theorem witness_UnfinalizeOpResult :
    (∃ s t u : State, s.cfgValid = true ∧ s.operand ≤ s.mask ∧ exec .unfinalizeOp s = .next t ∧
      exec .resume s = .next u) ∧
    (∃ s : State, s.cfgValid = true ∧ s.mask < s.operand) ∧ State.reset.cfgValid = false ∧
    (∃ s : State, DnpActive s ∧ s.operand = 0x82EA) ∧
    (((0x108 : Word).extractLsb' 0 8).toNat = 0x08 ∧ ¬ ((0x108 : Word) = 8)) :=
  ⟨⟨{ dnp with operand := 0xFFFF }, _, _, rfl, by decide, rfl, rfl⟩,
    ⟨{ dnp with operand := 0x10000 }, rfl, by decide⟩, rfl,
    ⟨{ dnp with operand := 0x82EA }, by unfold DnpActive ActiveIs; decide, rfl⟩, by decide⟩

/-! ## Witnesses of the statements about errors and frames -/

theorem witness_ErrorChangesOnlyTheRecord :
    ∃ t, executeWord 0x0C crc32 = .next t ∧ t.lastErr ≠ 0 := ⟨_, rfl, by decide⟩

/-- The bus access of the first register is admitted. -/
theorem witness_ErrorsNeverStopTheBlock :
    busIndex Config.base 8 ≠ none ∧ ∃ t, executeWord 0x3105 crc32 = .next t := by
  refine ⟨?_, _, rfl⟩
  have : Config.base % 8 = 0 := by simp [Config.base]
  simp [busIndex, this]

theorem witness_ClearStickyShowsNoFailure :
    ∃ s t : State, StateInv s ∧ (∀ a ∈ s.pending, KeepsErrorRecord a) ∧ runs 1 s t ∧ t.errSticky = false := by
  refine ⟨{ crc32 with operand := 0, pending := [.read 0x011] },
    { crc32 with operand := 0, reads := [regRead 0x011 crc32] }, (ready_with crc32_ready _ _).1, ?_, ⟨_, rfl, rfl⟩, rfl⟩
  intro a ha
  simp only [List.mem_singleton] at ha
  subst ha
  exact ⟨by decide, fun w hw => by simp [commandOf] at hw⟩

theorem witness_AccCommandsFrame :
    WritesAcc (.updateSlow 0x31) ∧ Instr.updateSlow 0x31 ≠ .configure ∧
    (∃ t, exec (.updateSlow 0x31) crc32 = .next t ∧ t.lastErr = 0) ∧
    ∃ t, exec (.updateSlow 0x31) State.reset = .next t ∧ t.lastErr ≠ 0 :=
  ⟨.inr (.inr (.inr (.inl ⟨_, rfl⟩))), by decide, ⟨_, rfl, rfl⟩, ⟨_, rfl, by decide⟩⟩

theorem witness_AuxoutCommandsFrame :
    WritesAuxout .finalizeOp ∧ (∃ t, exec .finalizeOp crc32 = .next t ∧ t.lastErr = 0) ∧
    ∃ t, exec .finalizeOp State.reset = .next t ∧ t.lastErr ≠ 0 :=
  ⟨.inr (.inr (.inl rfl)), ⟨_, rfl, rfl⟩, ⟨_, rfl, by decide⟩⟩

theorem witness_OtherCommandsFrame :
    (∃ t, exec .nop crc32 = .next t) ∧ (∃ t, exec .clearErr crc32 = .next t) ∧
    (∃ t, exec .buildTable crc32 = .next t ∧ t.lastErr = 0) ∧
    (∃ t, exec .buildTable State.reset = .next t ∧ t.lastErr ≠ 0) ∧
    (∃ t, exec .configure crc32 = .next t ∧ t.lastErr = 0) ∧
    ∃ t, exec .configure State.reset = .next t ∧ t.lastErr ≠ 0 :=
  ⟨⟨_, rfl⟩, ⟨_, rfl⟩, ⟨_, rfl, rfl⟩, ⟨_, rfl, by decide⟩, ⟨_, rfl, rfl⟩, ⟨_, rfl, by decide⟩⟩

/-! ## Witnesses of the statements about the whole machine -/

theorem witness_StepKeepsStateInv :
    ∃ s t : State, StateInv s ∧ step s = .next t ∧ t.acc ≠ s.acc :=
  ⟨{ crc32 with operand := 0, pending := [.write 0x005 0x3105] }, _, (ready_with crc32_ready _ _).1, rfl, by decide⟩

theorem witness_OnlyListedCommandsWriteAcc :
    (∃ t, hostStep (.write 0x005 0x3105) crc32 = .next t ∧ t.acc ≠ crc32.acc) ∧
    (∃ t, hostStep .reset crc32 = .next t) ∧ StateInv crc32 :=
  ⟨⟨_, rfl, by decide⟩, ⟨_, rfl⟩, crc32_ready.1⟩

theorem witness_OnlyConfigureAndResetWriteConfiguration :
    (∃ t, hostStep (.write 0x005 0x3105) crc32 = .next t) ∧
    ¬ Carries (.write 0x005 0x3105) (· = .configure) ∧ (HostAccess.write 0x005 0x3105) ≠ .reset ∧ StateInv crc32 := by
  refine ⟨⟨_, rfl⟩, ?_, by decide, crc32_ready.1⟩
  rintro ⟨w, i, hw, hi, rfl⟩
  obtain rfl : 0x3105 = w := Option.some.inj hw
  exact absurd hi (by decide)

/-- Each flag's change happens. -/
theorem witness_FlagWriters :
    (∃ t, hostStep (.write 0x005 0x1) (staged 0x008 0x07 0 0) = .next t ∧ t.cfgValid = true) ∧
    (∃ t, hostStep (.write 0x005 0x1) { crc32 with stgCfg := 0 } = .next t ∧ t.cfgValid = false) ∧
    (∃ t, hostStep .reset crc32Built = .next t ∧ t.cfgValid = false ∧ t.tableValid = false) ∧
    (∃ t, hostStep (.write 0x005 0x2) crc32 = .next t ∧ t.tableValid = true) ∧
    (∃ t, hostStep (.write 0x005 0x0C) crc32 = .next t ∧ t.errSticky = true) ∧
    (∃ t, hostStep (.write 0x005 0x0B) crc32NoTable = .next t ∧ t.errSticky = false) ∧
    (commandOf (.read 0) = none ∧ HostAccess.read 0 ≠ .reset) :=
  ⟨⟨_, rfl, rfl⟩, ⟨_, rfl, rfl⟩, ⟨_, rfl, rfl, rfl⟩, ⟨_, rfl, rfl⟩, ⟨_, rfl, rfl⟩, ⟨_, rfl, rfl⟩, rfl, by decide⟩

/-- Two states that differ in the hidden table RAM and the draw counter, and a step of one of them. -/
theorem witness_UnbuiltTableIsNotObservable :
    SameVisible { crc32 with table := Vector.replicate 256 0 } { crc32 with table := Vector.replicate 256 1, draws := 7 } ∧
    SameVisible crc32Built crc32Built ∧ ∃ t, step { crc32 with table := Vector.replicate 256 0 } = .next t :=
  ⟨⟨rfl, fun h => absurd h (by decide)⟩, ⟨rfl, fun _ _ => rfl⟩, _, rfl⟩

theorem witness_StagingIsInertUntilConfigure :
    decode 0x3105 ≠ some .configure ∧ ∃ t, executeWord 0x3105 crc32 = .next t := ⟨by decide, _, rfl⟩

/-- The smallest and the largest width. -/
theorem witness_SetcfgConfiguresTheBlock :
    (8 ≤ (8 : BitVec 6).toNat ∧ (0xFF : Word).toNat < 2 ^ (8 : BitVec 6).toNat ∧ (8 : BitVec 6).toNat % 8 = 0) ∧
    (8 ≤ (63 : BitVec 6).toNat ∧ (0x7FFFFFFFFFFFFFFF : Word).toNat < 2 ^ (63 : BitVec 6).toNat) ∧
    ∃ s : State, s.pending = setcfg ((8 : BitVec 6).setWidth 64) 0xFF 0 0 ((BitVec.ofBool true).setWidth 64)
      ((BitVec.ofBool false).setWidth 64) ((BitVec.ofBool true).setWidth 64) ++ [] :=
  ⟨by decide, by decide, State.reset.withPending (setcfg ((8 : BitVec 6).setWidth 64) 0xFF 0 0
      ((BitVec.ofBool true).setWidth 64) ((BitVec.ofBool false).setWidth 64) ((BitVec.ofBool true).setWidth 64)), rfl⟩

end Sys2Proof.Tests
end

section
/-! PROOFS. SlowStep as polynomial division over GF(2) (R4, R14, R170, R171, R174). A word is read as a
polynomial by `polyOf`: exclusive-or is addition, a shift that loses no bit multiplies by a power of `X`, and one
round of the division multiplies by `X` and adds the generator exactly if the top bit was set. -/

namespace Sys2Proof.Proofs

open Sys2Proof Sys2Proof.Machine Sys2Proof.Safety Sys2Proof.Spec
open Polynomial (X)

/-! ## What a ready state's configuration holds (R35, R36) -/

theorem ready_bits {s : State} (h : Ready s) : 8 ≤ s.aBits.toNat ∧ s.aBits.toNat ≤ 63 :=
  have ⟨hlo, hhi, _⟩ := h.1.legal h.2
  ⟨hlo, hhi⟩

theorem ready_aPoly_le {s : State} (h : Ready s) : s.aPoly ≤ s.mask :=
  have ⟨_, _, hpoly, _⟩ := h.1.legal h.2
  hpoly

theorem ready_mask {s : State} (h : Ready s) : s.mask = lowMask s.aBits.toNat := by
  have hn := (ready_bits h).2
  exact BitVec.eq_of_toNat_eq ((h.1.derived.1 h.2).1.trans (lowMask_toNat (by omega)).symm)

theorem ready_topbit {s : State} (h : Ready s) (i : Nat) :
    s.topbit.getLsbD i = decide (i = s.aBits.toNat - 1) := by
  rw [BitVec.getLsbD, (h.1.derived.1 h.2).2.1, Nat.testBit_two_pow]
  exact decide_eq_decide.mpr eq_comm

theorem ready_le_mask_iff {s : State} (h : Ready s) (x : Word) :
    x ≤ s.mask ↔ ∀ i, s.aBits.toNat ≤ i → x.getLsbD i = false := by
  have hn := (ready_bits h).2
  rw [ready_mask h, le_lowMask_iff (by omega)]

/-! ## The bits of the message byte (R223) -/

theorem getLsbD_inputByte_of_le (s : State) (d : Byte) {i : Nat} (hi : 8 ≤ i) :
    (inputByte s d).getLsbD i = false := by
  unfold inputByte
  split
  · simp [bitsReflected, getLsbD_reflectBitsRounds _ (by decide : 8 ≤ 64) i 8 (le_refl 8), Nat.not_lt.mpr hi]
  · simp [dataOperand, BitVec.getLsbD_of_ge d i hi]

/-! ## Words as polynomials -/

@[simp] theorem coeff_polyOf (w : Word) (i : Nat) :
    (polyOf w).coeff i = if w.getLsbD i then 1 else 0 := by
  have hterm : ∀ j, (if w.getLsbD j then (X : Polynomial (ZMod 2)) ^ j else 0).coeff i =
      if i = j then (if w.getLsbD j then 1 else 0) else 0 := by
    intro j
    split <;> simp [Polynomial.coeff_X_pow]
  have hout : ¬ i < 64 → w.getLsbD i = false := fun hi => BitVec.getLsbD_of_ge w i (Nat.not_lt.mp hi)
  simp only [polyOf, Polynomial.finsetSum_coeff, hterm, Finset.sum_ite_eq, Finset.mem_range]
  by_cases hi : i < 64 <;> simp [hi, hout]

theorem polyOf_xor (a b : Word) : polyOf (a ^^^ b) = polyOf a + polyOf b := by
  ext i
  have htwo : (1 : ZMod 2) + 1 = 0 := by decide
  cases ha : a.getLsbD i <;> cases hb : b.getLsbD i <;> simp [ha, hb, htwo]

/-- A value of `m` bits loses none of them in a shift by `k` if `m + k ≤ 64`. -/
theorem getLsbD_shiftLeft_of_fits {w : Word} {m k i : Nat} (hw : ∀ i, m ≤ i → w.getLsbD i = false)
    (hk : m + k ≤ 64) (hik : k ≤ i) : (w <<< k).getLsbD i = w.getLsbD (i - k) := by
  have hout : ¬ i < 64 → w.getLsbD (i - k) = false := fun hi => hw _ (by omega)
  by_cases hi : i < 64 <;> simp [-BitVec.getLsbD_eq_getElem, hi, hout, Nat.not_lt.mpr hik]

theorem polyOf_shiftLeft {w : Word} {m k : Nat} (hw : ∀ i, m ≤ i → w.getLsbD i = false) (hk : m + k ≤ 64) :
    polyOf (w <<< k) = polyOf w * X ^ k := by
  ext i
  rw [Polynomial.coeff_mul_X_pow']
  by_cases hik : k ≤ i
  · rw [if_pos hik, coeff_polyOf, coeff_polyOf, getLsbD_shiftLeft_of_fits hw hk hik]
  · simp [hik, Nat.not_le.mp hik]

theorem degree_polyOf_lt {w : Word} {n : Nat} (hw : ∀ i, n ≤ i → w.getLsbD i = false) :
    (polyOf w).degree < n :=
  (Polynomial.degree_lt_iff_coeff_zero _ _).mpr fun i hi => by simp [hw i hi]

/-- Masking a value of `n + 1` bits to `n` bits takes away `X^n` if bit `n` was set; over GF(2) that is adding it. -/
theorem polyOf_and_lowMask {w : Word} {n : Nat} (hn : n < 64) (hw : ∀ i, n + 1 ≤ i → w.getLsbD i = false) :
    polyOf (w &&& lowMask n) = polyOf w + if w.getLsbD n then X ^ n else 0 := by
  ext i
  have htwo : (1 : ZMod 2) + 1 = 0 := by decide
  rcases Nat.lt_trichotomy i n with h | rfl | h
  · cases w.getLsbD n <;> simp [getLsbD_lowMask hn.le, Polynomial.coeff_X_pow, h, h.ne]
  · cases hb : w.getLsbD i <;> simp [getLsbD_lowMask hn.le, hb, htwo]
  · cases w.getLsbD n <;> simp [Polynomial.coeff_X_pow, hw i h, h.ne']

/-! ## The division -/

theorem degree_aPoly_lt {s : State} (h : Ready s) : (polyOf s.aPoly).degree < s.aBits.toNat :=
  degree_polyOf_lt ((ready_le_mask_iff h _).mp (ready_aPoly_le h))

theorem generator_monic {s : State} (h : Ready s) : (generator s).Monic :=
  Polynomial.monic_X_pow_add (degree_aPoly_lt h)

theorem degree_generator {s : State} (h : Ready s) : (generator s).degree = s.aBits.toNat :=
  (Polynomial.degree_add_eq_left_of_degree_lt (by simpa using degree_aPoly_lt h)).trans (Polynomial.degree_X_pow _)

/-- One round of the long division: multiply by `X`, and subtract the generator if `X^BITS` came up (R170). -/
theorem polyOf_divRound {s : State} (h : Ready s) {crc : Word} (hc : crc ≤ s.mask) :
    polyOf (divRound s crc) =
      polyOf crc * X + if crc.getLsbD (s.aBits.toNat - 1) then generator s else 0 := by
  obtain ⟨hlo, hhi⟩ := ready_bits h
  have hbits := (ready_le_mask_iff h crc).mp hc
  have hshift : polyOf (crc <<< 1) = polyOf crc * X := by
    rw [polyOf_shiftLeft hbits (by omega), pow_one]
  have hmasked : polyOf (crc <<< 1 &&& s.mask) =
      polyOf crc * X + if crc.getLsbD (s.aBits.toNat - 1) then X ^ s.aBits.toNat else 0 := by
    have htop : (crc <<< 1).getLsbD s.aBits.toNat = crc.getLsbD (s.aBits.toNat - 1) :=
      getLsbD_shiftLeft_of_fits hbits (by omega) (by omega)
    rw [ready_mask h, polyOf_and_lowMask (by omega), hshift, htop]
    intro i hi
    simp [hbits (i - 1) (by omega)]
  have hset := and_twoPow64_ne_zero_iff (k := s.aBits.toNat - 1) (by omega) crc s.topbit (ready_topbit h)
  unfold divRound
  by_cases hb : crc.getLsbD (s.aBits.toNat - 1) = true
  · rw [if_pos (hset.mpr hb), if_pos hb, polyOf_xor, hmasked, if_pos hb, generator, add_assoc]
  · rw [if_neg (hset.not.mpr hb), if_neg hb, hmasked, if_neg hb]

/-- `k` rounds multiply by `X^k`, up to multiples of the generator. -/
theorem generator_dvd_divRounds_sub {s : State} (h : Ready s) :
    ∀ (k : Nat) {crc : Word}, crc ≤ s.mask →
      generator s ∣ polyOf (divRounds s k crc) - polyOf crc * X ^ k
  | 0, crc, _ => by simp [divRounds]
  | k + 1, crc, hc => by
    have hn := (ready_bits h).2
    have ih := generator_dvd_divRounds_sub h k (divRound_le (by omega) (ready_mask h) (ready_aPoly_le h) crc)
    have hround : generator s ∣ polyOf (divRound s crc) - polyOf crc * X := by
      rw [polyOf_divRound h hc, add_sub_cancel_left]
      split
      · exact dvd_rfl
      · exact dvd_zero _
    have hsplit : polyOf (divRounds s (k + 1) crc) - polyOf crc * X ^ (k + 1) =
        (polyOf (divRounds s k (divRound s crc)) - polyOf (divRound s crc) * X ^ k) +
          (polyOf (divRound s crc) - polyOf crc * X) * X ^ k := by
      rw [divRounds]; ring
    rw [hsplit]
    exact dvd_add ih (hround.mul_right _)

/-- The remainder of a value in range after `k` rounds: the rounds leave a value below the generator's degree. -/
theorem polyOf_divRounds {s : State} (h : Ready s) (k : Nat) {crc : Word} (hc : crc ≤ s.mask) :
    polyOf (divRounds s k crc) = (polyOf crc * X ^ k) %ₘ generator s := by
  have hn := (ready_bits h).2
  have hle : divRounds s k crc ≤ s.mask := divRounds_le (by omega) (ready_mask h) (ready_aPoly_le h) k crc hc
  have hdeg : (polyOf (divRounds s k crc)).degree < (generator s).degree := by
    rw [degree_generator h]
    exact degree_polyOf_lt ((ready_le_mask_iff h _).mp hle)
  rw [← (Polynomial.modByMonic_eq_self_iff (generator_monic h)).mpr hdeg]
  exact Polynomial.modByMonic_eq_of_dvd_sub (generator_monic h) (generator_dvd_divRounds_sub h k hc)

/-! ## The per-byte step (R171) -/

theorem shifted_inputByte_le_mask {s : State} (h : Ready s) (d : Byte) :
    inputByte s d <<< topByteShift s ≤ s.mask := by
  have hlo := (ready_bits h).1
  refine (ready_le_mask_iff h _).mpr fun i hi => ?_
  simp [getLsbD_inputByte_of_le s d (i := i - topByteShift s) (by unfold topByteShift; omega)]

theorem xor_le_mask {s : State} (h : Ready s) {a b : Word} (ha : a ≤ s.mask) (hb : b ≤ s.mask) :
    a ^^^ b ≤ s.mask := by
  rw [ready_le_mask_iff h] at ha hb ⊢
  intro i hi
  simp [ha i hi, hb i hi]

theorem polyOf_shifted_inputByte {s : State} (h : Ready s) (d : Byte) :
    polyOf (inputByte s d <<< topByteShift s) * X ^ 8 = polyOf (inputByte s d) * X ^ s.aBits.toNat := by
  obtain ⟨hlo, hhi⟩ := ready_bits h
  have hexp : topByteShift s + 8 = s.aBits.toNat := by unfold topByteShift; omega
  rw [polyOf_shiftLeft (fun _ => getLsbD_inputByte_of_le s d) (by omega), mul_assoc, ← pow_add, hexp]

/-- Settles O24: the eight rounds on ACC with the byte at its top are the remainder of
`(ACC + byte·X^(BITS−8))·X^8`. -/
theorem slowStepIsPolynomialRemainder : Obligations.SlowStepIsPolynomialRemainder := by
  intro s crc d h hc
  have hin := xor_le_mask h hc (shifted_inputByte_le_mask h d)
  rw [slowStep, div8, polyOf_divRounds h 8 hin, polyOf_xor, add_mul, polyOf_shifted_inputByte h]

end Sys2Proof.Proofs
end

section
/-! PROOFS. What a command and an access of the host leave unchanged, read off their listed outcomes: the staging
registers and OPERAND (R32, R38), the active configuration (R34, R36), ACC (R37) and the flags (R42). -/

namespace Sys2Proof.Proofs

open Sys2Proof Sys2Proof.Machine Sys2Proof.Safety

variable {s t : State} {i : Instr} {a : HostAccess}

/-! ## What CONFIGURE does -/

/-- CONFIGURE latches a legal staging configuration and drops the active one for an illegal one (R141, R143). -/
theorem configure_cases (h : ExecCase s .configure t) :
    (stagingLegal s = true ∧ t = s.configured.succeeded) ∨
    (stagingLegal s = false ∧ t = s.deconfigured.failed .badConfig) := by
  cases h with
  | latched hl => exact .inl ⟨hl, rfl⟩
  | deconfigured hl => exact .inr ⟨hl, rfl⟩
  | notConfigured hi => simp [NeedsConfig] at hi
  | operandRange hi => simp [NeedsOperandInRange] at hi

/-! ## What a command leaves unchanged -/

theorem sameStaging_of_execCase (h : ExecCase s i t) : SameStaging s t := by
  cases h <;> exact ⟨rfl, rfl, rfl, rfl, rfl⟩

theorem sameActive_refl (s : State) : SameActive s s := ⟨rfl, rfl, rfl, rfl, rfl, rfl, rfl, rfl, rfl, rfl, rfl⟩

theorem sameActive_of_execCase (h : ExecCase s i t) (hi : i ≠ .configure) : SameActive s t := by
  cases h with
  | latched => exact absurd rfl hi
  | deconfigured => exact absurd rfl hi
  | _ => exact sameActive_refl s

theorem pending_of_execCase (h : ExecCase s i t) : t.pending = s.pending := by
  cases h <;> rfl

/-- Every command that is not listed in R37 keeps ACC. -/
theorem writesAcc_of_execCase (h : ExecCase s i t) (hacc : t.acc ≠ s.acc) : WritesAcc i := by
  cases h with
  | latched => exact .inl rfl
  | deconfigured => exact .inl rfl
  | started => exact .inr (.inl rfl)
  | resumed => exact .inr (.inr (.inl rfl))
  | slow d _ => exact .inr (.inr (.inr (.inl ⟨d, rfl⟩)))
  | fast d _ _ => exact .inr (.inr (.inr (.inr ⟨d, rfl⟩)))
  | _ => exact absurd rfl hacc

/-! ## What a command does to the flags (R42) -/

/-- CFG_VALID: set by a CONFIGURE that succeeds, cleared by one that fails, kept by every other command. -/
theorem cfgValid_of_execCase (h : ExecCase s i t) :
    t.cfgValid = s.cfgValid ∨
    (i = .configure ∧ (t.cfgValid = true ∧ t.lastErr = 0 ∨ t.cfgValid = false ∧ t.lastErr = 3)) := by
  cases h with
  | latched => exact .inr ⟨rfl, .inl ⟨rfl, rfl⟩⟩
  | deconfigured => exact .inr ⟨rfl, .inr ⟨rfl, rfl⟩⟩
  | _ => exact .inl rfl

/-- TABLE_VALID: set by a BUILD_TABLE that succeeds, cleared by CONFIGURE, kept by every other command. -/
theorem tableValid_of_execCase (h : ExecCase s i t) :
    (t.tableValid = s.tableValid ∧ i ≠ .configure) ∨ (i = .configure ∧ t.tableValid = false) ∨
    (i = .buildTable ∧ t.tableValid = true ∧ t.lastErr = 0) := by
  cases h with
  | latched => exact .inr (.inl ⟨rfl, rfl⟩)
  | deconfigured => exact .inr (.inl ⟨rfl, rfl⟩)
  | built => exact .inr (.inr ⟨rfl, rfl, rfl⟩)
  | notConfigured hi _ => exact .inl ⟨rfl, by rintro rfl; simp [NeedsConfig] at hi⟩
  | operandRange hi _ _ => exact .inl ⟨rfl, by rintro rfl; simp [NeedsOperandInRange] at hi⟩
  | _ => exact .inl ⟨rfl, by simp⟩

theorem code_le_five (e : OutcomeCode) : e.code.toNat ≤ 5 := by cases e <;> decide

theorem code_ne_zero {e : OutcomeCode} (he : e ≠ .ok) : e.code ≠ 0 := by
  cases e <;> simp [OutcomeCode.code] at he ⊢

/-- The error record: a command that succeeds keeps ERR_STICKY unless it is CLEAR_ERR, and one that fails
sets it. -/
theorem errorRecord_of_execCase (h : ExecCase s i t) :
    (t.lastErr = 0 ∧ (t.errSticky = s.errSticky ∨ i = .clearErr ∧ t.errSticky = false)) ∨
    (∃ e, e ≠ OutcomeCode.ok ∧ t.lastErr = e.code ∧ t.errSticky = true) := by
  cases h with
  | cleared => exact .inl ⟨rfl, .inr ⟨rfl, rfl⟩⟩
  | deconfigured => exact .inr ⟨.badConfig, by decide, rfl, rfl⟩
  | notConfigured => exact .inr ⟨.notConfigured, by decide, rfl, rfl⟩
  | noTable => exact .inr ⟨.noTable, by decide, rfl, rfl⟩
  | operandRange => exact .inr ⟨.operandRange, by decide, rfl, rfl⟩
  | illegalBits => exact .inr ⟨.illegal, by decide, rfl, rfl⟩
  | illegalBytes => exact .inr ⟨.illegal, by decide, rfl, rfl⟩
  | _ => exact .inl ⟨rfl, .inl rfl⟩

/-! ## What an access leaves unchanged -/

/-- The two states agree on the active configuration, ACC, the table RAM and the flags. -/
structure Quiet (s t : State) : Prop where
  active : SameActive s t
  acc : t.acc = s.acc
  table : t.table = s.table
  tableValid : t.tableValid = s.tableValid
  errSticky : t.errSticky = s.errSticky
  lastErr : t.lastErr = s.lastErr

/-- The four kinds of access: one that carries no command and leaves the block quiet, a command, an illegal word,
and the reset event. -/
inductive AccessKind (s : State) (a : HostAccess) (t : State) : Prop where
  | quiet (hn : commandOf a = none) (hr : a ≠ .reset) (hq : Quiet s t)
  | command (w : Word) (i : Instr) (hw : commandOf a = some w) (hd : decode w = some i) (he : ExecCase s i t)
  | illegal (w : Word) (hw : commandOf a = some w) (hd : decode w = none) (ht : t = s.failed .illegal)
  | reset (ha : a = .reset) (ht : t = s.afterReset)

theorem accessKind_of_accessCase (h : AccessCase s a t) : AccessKind s a t := by
  cases h with
  | command w i hw hd he => exact .command w i hw hd he
  | illegal w hw hd => exact .illegal w hw hd rfl
  | reset => exact .reset rfl rfl
  | _ => exact .quiet ‹_› ‹_› ⟨sameActive_refl s, rfl, rfl, rfl, rfl, rfl⟩

theorem accessKind_of_hostStep (h : hostStep a s = .next t) : AccessKind s a t :=
  accessKind_of_accessCase (hostStep_cases h)

theorem pending_of_accessCase (h : AccessCase s a t) : t.pending = s.pending := by
  cases h with
  | command _ _ _ _ he => exact pending_of_execCase he
  | _ => rfl

theorem not_carries_of_no_command (hn : commandOf a = none) (p : Instr → Prop) : ¬ Carries a p := by
  rintro ⟨w, _, hw, -⟩
  exact absurd (hn ▸ hw) (by simp)

theorem not_carries_of_illegal {w : Word} (hw : commandOf a = some w) (hd : decode w = none) (p : Instr → Prop) :
    ¬ Carries a p := by
  rintro ⟨w', _, hw', hj, -⟩
  obtain rfl : w' = w := Option.some.inj (hw' ▸ hw)
  exact absurd (hd ▸ hj) (by simp)

/-- An access that writes to CMD carries the one command its word decodes to. -/
theorem carries_iff_of_command {w : Word} (hw : commandOf a = some w) (hd : decode w = some i) (p : Instr → Prop) :
    Carries a p ↔ p i := by
  constructor
  · rintro ⟨w', j, hw', hj, hp⟩
    obtain rfl : w' = w := Option.some.inj (hw' ▸ hw)
    obtain rfl : j = i := Option.some.inj (hj ▸ hd)
    exact hp
  · exact fun hp => ⟨w, i, hw, hd, hp⟩

end Sys2Proof.Proofs
end

section
/-! PROOFS. The invariant of the state (R32, R35, R36, R37, R51, R250) holds after the reset event, and every command,
every access and every step keeps it. What a command writes to ACC or to the table RAM is in range and is the
configuration's own; the rest of the invariant speaks of registers that only CONFIGURE and reset write. -/

namespace Sys2Proof.Proofs

open Sys2Proof Sys2Proof.Machine Sys2Proof.Safety

variable {s t : State} {i : Instr} {a : HostAccess}

/-! ## The values a command writes are at most MASK (R173, R195, R227) -/

theorem div8_le_mask (h : Ready s) (crc : Word) : div8 s crc ≤ s.mask := by
  have hn : s.aBits.toNat ≤ 64 := by have := (ready_bits h).2; omega
  exact divRounds_le hn (ready_mask h) (ready_aPoly_le h) 7 _ (divRound_le hn (ready_mask h) (ready_aPoly_le h) crc)

theorem slowStep_le_mask (h : Ready s) (crc : Word) (d : Byte) : slowStep s crc d ≤ s.mask := div8_le_mask h _

theorem tableEntry_le_mask (h : Ready s) (k : EntryIndex) : tableEntry s k ≤ s.mask := div8_le_mask h _

theorem and_le_right (x m : Word) : x &&& m ≤ m := by
  rw [BitVec.le_def, BitVec.toNat_and]
  exact Nat.and_le_right

/-- A built table's entries are in range, so the table-driven step is (R195). -/
theorem fastStep_le_mask (h : Ready s) (ht : s.tableValid = true) (crc : Word) (d : Byte) :
    fastStep s crc d ≤ s.mask := by
  have ⟨_, hentry⟩ := h.1.table ht
  exact xor_le_mask h (and_le_right _ _) (hentry _ ▸ tableEntry_le_mask h _)

theorem bitsReflected_le_mask (h : Ready s) (x : Word) : bitsReflected x s.aBits.toNat ≤ s.mask := by
  have hn := (ready_bits h).2
  refine (ready_le_mask_iff h _).mpr fun i hi => ?_
  simp [bitsReflected, getLsbD_reflectBitsRounds x (by omega : s.aBits.toNat ≤ 64) i _ le_rfl, Nat.not_lt.mpr hi]

/-- With REFOUT_BYTES the width is a whole number of bytes, NBYTES of them (R35, R36). -/
theorem bytesReflected_le_mask (h : Ready s) (hb : s.aRefoutBytes = true) (x : Word) :
    bytesReflected x s.nbytes.toNat ≤ s.mask := by
  obtain ⟨_, hhi, _, _, _, hmod⟩ := h.1.legal h.2
  have hbytes : 8 * s.nbytes.toNat = s.aBits.toNat := by
    have := (h.1.derived.1 h.2).2.2
    have := hmod hb
    omega
  refine (ready_le_mask_iff h _).mpr fun i hi => ?_
  have hbit := getLsbD_reflectBytesRounds x (by omega : s.nbytes.toNat ≤ 8) (i / 8) (i % 8) (by omega) _ le_rfl
  rw [Nat.div_add_mod] at hbit
  rw [bytesReflected, hbit, decide_eq_false (by omega), Bool.false_and, Bool.false_and]

theorem unfinalized_le_mask (h : Ready s) {x : Word} (hx : x ≤ s.mask) : unfinalized s x ≤ s.mask := by
  have hbytes : (if s.aRefoutBytes then bytesReflected x s.nbytes.toNat else x) ≤ s.mask := by
    split
    · exact bytesReflected_le_mask h ‹_› x
    · exact hx
  have ⟨_, _, _, _, hxorout, _⟩ := h.1.legal h.2
  simp only [unfinalized]
  by_cases hr : s.aRefoutBits = true
  · rw [if_pos hr]; exact bitsReflected_le_mask h _
  · rw [if_neg hr]; exact xor_le_mask h hbytes hxorout

/-! ## The active configuration's part of the invariant (R35, R36) -/

/-- What R35 and R36 say of the active configuration and the derived registers. -/
structure ConfigInv (s : State) : Prop where
  legal : ActiveLegal s
  absent : ActiveZeroWhenAbsent s
  derived : DerivedAgree s

theorem configInv_of_sameActive (h : ConfigInv s) (ha : SameActive s t) : ConfigInv t := by
  obtain ⟨hlegal, habsent, hderived⟩ := h
  obtain ⟨hv, hbits, hrefin, hrb, hry, hpoly, hinit, hxor, hmask, htop, hnb⟩ := ha
  constructor
  · rwa [ActiveLegal, hv, hbits, hry, hpoly, hinit, hxor, hmask]
  · rwa [ActiveZeroWhenAbsent, hv, hbits, hrefin, hrb, hry, hpoly, hinit, hxor]
  · rwa [DerivedAgree, hv, hbits, hmask, htop, hnb]

theorem configInv_deconfigured (s : State) : ConfigInv s.deconfigured :=
  ⟨nofun, fun _ => ⟨rfl, rfl, rfl, rfl, rfl, rfl, rfl⟩, nofun, fun _ => ⟨rfl, rfl, rfl⟩⟩

theorem configInv_afterReset (s : State) : ConfigInv s.afterReset :=
  ⟨nofun, fun _ => ⟨rfl, rfl, rfl, rfl, rfl, rfl, rfl⟩, nofun, fun _ => ⟨rfl, rfl, rfl⟩⟩

/-- The check of R142 in the terms of R35. -/
theorem stagingLegal_iff : stagingLegal s = true ↔
    8 ≤ (cfgBits s.stgCfg).toNat ∧ s.stgPoly ≤ maskOf (cfgBits s.stgCfg) ∧ s.stgInit ≤ maskOf (cfgBits s.stgCfg) ∧
    s.stgXorout ≤ maskOf (cfgBits s.stgCfg) ∧
    (cfgRefoutBytes s.stgCfg = true → (cfgBits s.stgCfg).toNat % 8 = 0) := by
  cases hb : cfgRefoutBytes s.stgCfg <;> simp [stagingLegal, legalConfig, hb, and_assoc]

theorem derivedAgree_configured (s : State) : DerivedAgree s.configured := by
  have hn : (cfgBits s.stgCfg).toNat < 64 := (cfgBits s.stgCfg).isLt
  refine ⟨fun _ => ⟨lowMask_toNat hn.le, ?_, ?_⟩, nofun⟩
  · exact (BitVec.toNat_ofNat _ _).trans (Nat.mod_eq_of_lt (Nat.pow_lt_pow_right (by decide) (by omega)))
  · exact (BitVec.toNat_ofNat _ _).trans (Nat.mod_eq_of_lt (by omega))

theorem configInv_configured (hl : stagingLegal s = true) : ConfigInv s.configured := by
  obtain ⟨hlo, hpoly, hinit, hxor, hbytes⟩ := stagingLegal_iff.mp hl
  have hhi : (cfgBits s.stgCfg).toNat ≤ 63 := Nat.le_of_lt_succ (cfgBits s.stgCfg).isLt
  exact ⟨fun _ => ⟨hlo, hhi, hpoly, hinit, hxor, hbytes⟩, nofun, derivedAgree_configured s⟩

theorem configInv_of_execCase (h : ConfigInv s) (he : ExecCase s i t) : ConfigInv t := by
  by_cases hi : i = .configure
  · subst hi
    obtain ⟨hl, rfl⟩ | ⟨-, rfl⟩ := configure_cases he
    · exact configInv_of_sameActive (configInv_configured hl) (sameActive_refl _)
    · exact configInv_of_sameActive (configInv_deconfigured s) (sameActive_refl _)
  · exact configInv_of_sameActive h (sameActive_of_execCase he hi)

/-! ## ACC, the table RAM and the error record (R37, R51, R250) -/

theorem accInRange_of_execCase (h : StateInv s) (he : ExecCase s i t) : AccInRange t := by
  cases he with
  | latched hl =>
    obtain ⟨-, -, hinit, -⟩ := stagingLegal_iff.mp hl
    exact ⟨hinit, nofun⟩
  | deconfigured => exact ⟨BitVec.le_refl _, fun _ => rfl⟩
  | started hv =>
    obtain ⟨-, -, -, hinit, -⟩ := h.legal hv
    exact ⟨hinit, fun hf => nomatch hv.symm.trans hf⟩
  | resumed hv ho => exact ⟨unfinalized_le_mask ⟨h, hv⟩ ho, fun hf => nomatch hv.symm.trans hf⟩
  | slow d hv => exact ⟨slowStep_le_mask ⟨h, hv⟩ _ d, fun hf => nomatch hv.symm.trans hf⟩
  | fast d hv ht => exact ⟨fastStep_le_mask ⟨h, hv⟩ ht _ d, fun hf => nomatch hv.symm.trans hf⟩
  | _ => exact h.acc

theorem tableEntry_of_sameActive (ha : SameActive s t) (k : EntryIndex) : tableEntry t k = tableEntry s k := by
  obtain ⟨-, hbits, -, -, -, hpoly, -, -, hmask, htop, -⟩ := ha
  exact tableEntry_congr hmask htop hpoly hbits k

theorem tableAgrees_of_sameActive (h : TableAgrees s) (ha : SameActive s t) (ht : t.table = s.table)
    (hv : t.tableValid = s.tableValid) : TableAgrees t := by
  intro htv
  obtain ⟨hc, hentry⟩ := h (hv ▸ htv)
  exact ⟨ha.1.trans hc, fun k => by rw [ht, hentry, tableEntry_of_sameActive ha]⟩

theorem tableAgrees_of_execCase (h : TableAgrees s) (he : ExecCase s i t) : TableAgrees t := by
  cases he with
  | latched => exact nofun
  | deconfigured => exact nofun
  | built hv =>
    refine fun _ => ⟨hv, fun k => (memRead_builtTable s k).trans ?_⟩
    exact tableEntry_of_sameActive (sameActive_refl s) k
  | _ => exact tableAgrees_of_sameActive h (sameActive_refl s) rfl rfl

theorem errorRecordSound_of_execCase (he : ExecCase s i t) : ErrorRecordSound t := by
  obtain ⟨hz, -⟩ | ⟨e, -, hcode, hsticky⟩ := errorRecord_of_execCase he
  · exact ⟨by simp [hz], fun hne => absurd hz hne⟩
  · exact ⟨hcode ▸ code_le_five e, fun _ => hsticky⟩

/-! ## The whole invariant -/

theorem configInv_of_stateInv (h : StateInv s) : ConfigInv s := ⟨h.legal, h.absent, h.derived⟩

theorem stateInv_of_configInv (hc : ConfigInv s) (hs : StagingReservedZero s) (ha : AccInRange s)
    (ht : TableAgrees s) (he : ErrorRecordSound s) : StateInv s :=
  ⟨hs, hc.legal, hc.absent, hc.derived, ha, ht, he⟩

theorem stateInv_afterReset (s : State) : StateInv s.afterReset :=
  stateInv_of_configInv (configInv_afterReset s) (by simp [StagingReservedZero])
    ⟨BitVec.le_refl _, fun _ => rfl⟩ nofun ⟨Nat.zero_le _, fun hne => absurd rfl hne⟩

theorem stateInv_of_quiet (h : StateInv s) (hq : Quiet s t) (hs : StagingReservedZero t) : StateInv t := by
  have hmask : t.mask = s.mask := by obtain ⟨-, -, -, -, -, -, -, -, hmask, -⟩ := hq.active; exact hmask
  refine stateInv_of_configInv (configInv_of_sameActive (configInv_of_stateInv h) hq.active) hs ?_
    (tableAgrees_of_sameActive h.table hq.active hq.table hq.tableValid) ?_
  · rw [AccInRange, hq.acc, hmask, hq.active.1]; exact h.acc
  · rw [ErrorRecordSound, hq.lastErr, hq.errSticky]; exact h.errors

theorem stagingReservedZero_cfgStored (s : State) (v : Word) : StagingReservedZero (s.withStgCfg v) := by
  simp [StagingReservedZero, cfgStored]

theorem stateInv_of_execCase (h : StateInv s) (he : ExecCase s i t) : StateInv t := by
  have hcfg := (sameStaging_of_execCase he).1
  exact stateInv_of_configInv (configInv_of_execCase (configInv_of_stateInv h) he)
    (by rw [StagingReservedZero, hcfg]; exact h.staging) (accInRange_of_execCase h he)
    (tableAgrees_of_execCase h.table he) (errorRecordSound_of_execCase he)


theorem stagingReservedZero_of_accessCase (h : StagingReservedZero s) (hc : AccessCase s a t) :
    StagingReservedZero t := by
  cases hc with
  | stgCfg v => exact stagingReservedZero_cfgStored s v
  | command _ _ _ _ he => rw [StagingReservedZero, (sameStaging_of_execCase he).1]; exact h
  | reset => exact (stateInv_afterReset s).staging
  | _ => exact h

theorem stateInv_of_accessCase (h : StateInv s) (hc : AccessCase s a t) : StateInv t := by
  cases accessKind_of_accessCase hc with
  | quiet _ _ hq => exact stateInv_of_quiet h hq (stagingReservedZero_of_accessCase h.staging hc)
  | command _ _ _ _ he => exact stateInv_of_execCase h he
  | illegal _ _ _ ht =>
    subst ht
    exact stateInv_of_configInv (configInv_of_sameActive (configInv_of_stateInv h) (sameActive_refl s)) h.staging h.acc
      (tableAgrees_of_sameActive h.table (sameActive_refl s) rfl rfl) ⟨code_le_five .illegal, fun _ => rfl⟩
  | reset _ ht => rw [ht]; exact stateInv_afterReset s

theorem stateInv_withPending (h : StateInv s) (p : List HostAccess) : StateInv (s.withPending p) :=
  stateInv_of_quiet h ⟨sameActive_refl s, rfl, rfl, rfl, rfl, rfl⟩ h.staging

/-- Settles O53: the reset state is what a reset event leaves of the state whose next draw is the first. -/
theorem resetMeetsStateInv : Obligations.ResetMeetsStateInv :=
  stateInv_afterReset { State.reset with draws := 0 }

/-- Settles O54: a step is an access, and every kind of access keeps the invariant. -/
theorem stepKeepsStateInv : Obligations.StepKeepsStateInv := by
  intro s t h hstep
  obtain ⟨-, rfl⟩ | ⟨a, rest, -, hc⟩ := step_cases hstep
  · exact h
  · exact stateInv_of_accessCase (stateInv_withPending h rest) hc

end Sys2Proof.Proofs
end

section
/-! PROOFS. What one access of the host does to the registers: what a step is (R43, R91), what is stored by a write
and shown by a read (R32, R34, R38, R41, R53, R82), which accesses write the active configuration, ACC and the flags
(R34, R37, R42), and what a clear ERR_STICKY says of a run (R289). -/

namespace Sys2Proof.Proofs

open Sys2Proof Sys2Proof.Machine Sys2Proof.Safety

variable {s t : State} {a : HostAccess}

/-! ## The step -/

theorem executeWord_of_decode {w : Word} {i : Instr} (hd : decode w = some i) (s : State) :
    executeWord w s = exec i s := by
  rw [executeWord, hd]

/-- Settles O6: the step is Execute of the written word. -/
theorem stepRunsDecodedCommand : Obligations.StepRunsDecodedCommand := by
  intro s w rest i hp hd
  exact (step_of_cmd_write hp).trans (executeWord_of_decode hd _)

theorem step_of_pending {rest : List HostAccess} (hp : s.pending = a :: rest) :
    step s = hostStep a (s.withPending rest) := by
  rw [step, nextAccess, hp]

theorem step_of_no_pending (hp : s.pending = []) : step s = .next s := by
  rw [step, nextAccess, hp]

/-- Settles O7: each clause is the step's or the access's own equation. -/
theorem stepTakesTheNextAccess : Obligations.StepTakesTheNextAccess := by
  refine ⟨fun s a rest hp => step_of_pending hp, fun s hp => step_of_no_pending hp, fun _ _ => rfl,
    fun _ _ _ => rfl, ?_⟩
  intro s t h
  cases h
  exact ⟨rfl, rfl⟩

/-! ## CFG and the other host-writable registers (R32, R38) -/

/-- CFG keeps all of the written bits that are not reserved: they fit in its 11 bits. -/
theorem setWidth_cfgStored (v : Word) : (cfgStored v).setWidth 64 = v &&& 0x73F := by
  have hle : (v &&& 0x73F).toNat ≤ 0x73F := by rw [BitVec.toNat_and]; exact Nat.and_le_right
  apply BitVec.eq_of_toNat_eq
  rw [cfgStored, BitVec.toNat_setWidth, BitVec.toNat_setWidth, Nat.mod_eq_of_lt (by omega), Nat.mod_eq_of_lt (by omega)]

theorem getLsbD_cfgStored (v : Word) (k : Nat) :
    (cfgStored v).getLsbD k = (v.getLsbD k && (0x73F : Word).getLsbD k) := by
  have h := congrArg (·.getLsbD k) (setWidth_cfgStored v)
  by_cases hk : k < 64
  · simpa [hk] using h
  · simp [BitVec.getLsbD_of_ge _ k (by omega : 64 ≤ k), BitVec.getLsbD_of_ge (cfgStored v) k (by omega)]

theorem getLsbD_cfgStored_of_kept (v : Word) {k : Nat} (hk : (0x73F : Word).getLsbD k = true) :
    (cfgStored v).getLsbD k = v.getLsbD k := by
  rw [getLsbD_cfgStored, hk, Bool.and_true]

theorem cfgBits_cfgStored (v : Word) : (cfgStored v).extractLsb' 0 6 = v.extractLsb' 0 6 := by
  apply BitVec.eq_of_getLsbD_eq
  intro k hk
  have hkept : (0x73F : Word).getLsbD (0 + k) = true := by interval_cases k <;> rfl
  rw [BitVec.getLsbD_extractLsb', BitVec.getLsbD_extractLsb', getLsbD_cfgStored_of_kept v hkept]

theorem sameStaging_of_executeWord {w : Word} (h : executeWord w s = .next t) : SameStaging s t := by
  obtain ⟨_, -, he⟩ | ⟨-, rfl⟩ := executeWord_cases h
  · exact sameStaging_of_execCase he
  · exact ⟨rfl, rfl, rfl, rfl, rfl⟩

/-- Settles O9: CFG stores the bits of 0x73F, and no outcome of a command writes the five registers. -/
theorem stagingAndOperandWrites : Obligations.StagingAndOperandWrites := by
  refine ⟨fun s v => ⟨⟨cfgStored v, setWidth_cfgStored v, rfl, setWidth_cfgStored v, cfgBits_cfgStored v,
    getLsbD_cfgStored_of_kept v rfl, getLsbD_cfgStored_of_kept v rfl, getLsbD_cfgStored_of_kept v rfl⟩,
    rfl, rfl, rfl, rfl, rfl, rfl, rfl, rfl⟩, fun _ _ _ h => sameStaging_of_executeWord h, ?_⟩
  intro s t h
  cases h
  exact ⟨rfl, rfl, rfl, rfl, rfl⟩

/-! ## STATUS and A_CFG (R34, R41) -/

theorem getLsbD_flagWord (b : Bool) (k : Nat) : (flagWord b).getLsbD k = (decide (k = 0) && b) := by
  by_cases hk : k = 0
  · simp [flagWord, hk]
  · have : 1 ≤ k := by omega
    simp [flagWord, hk, BitVec.getLsbD_of_ge (BitVec.ofBool b) k this]

theorem getLsbD_flagWord_shiftLeft (b : Bool) {n : Nat} (hn : n < 64) (k : Nat) :
    (flagWord b <<< n).getLsbD k = (decide (k = n) && b) := by
  rw [BitVec.getLsbD_shiftLeft, getLsbD_flagWord]
  by_cases hk : k = n
  · simp [hk, hn]
  · have : k < n ∨ k - n ≠ 0 := by omega
    rcases this with h | h <;> simp [h, hk]

theorem getLsbD_statusWord (s : State) (k : Nat) : (statusWord s).getLsbD k =
    (decide (k = 0) && s.cfgValid || decide (k = 1) && s.tableValid || decide (k = 2) && s.errSticky ||
      decide (8 ≤ k) && s.lastErr.getLsbD (k - 8)) := by
  have hlast : (s.lastErr.setWidth 64 <<< 8).getLsbD k = (decide (8 ≤ k) && s.lastErr.getLsbD (k - 8)) := by
    rw [BitVec.getLsbD_shiftLeft, BitVec.getLsbD_setWidth]
    by_cases hlo : k < 8
    · simp [hlo, Nat.not_le.mpr hlo]
    · by_cases hhi : k < 64
      · simp [hlo, hhi, Nat.not_lt.mp hlo, (by omega : k - 8 < 64)]
      · simp [hhi, BitVec.getLsbD_of_ge s.lastErr (k - 8) (by omega)]
  simp only [statusWord, BitVec.getLsbD_or, getLsbD_flagWord, hlast,
    getLsbD_flagWord_shiftLeft _ (by decide : 1 < 64), getLsbD_flagWord_shiftLeft _ (by decide : 2 < 64)]

theorem getLsbD_activeCfgWord (s : State) (k : Nat) : (activeCfgWord s).getLsbD k =
    (s.aBits.getLsbD k || decide (k = 8) && s.aRefin || decide (k = 9) && s.aRefoutBits ||
      decide (k = 10) && s.aRefoutBytes) := by
  have hbits : (s.aBits.setWidth 64).getLsbD k = s.aBits.getLsbD k := by
    rw [BitVec.getLsbD_setWidth]
    by_cases hk : k < 64
    · simp [hk]
    · simp [BitVec.getLsbD_of_ge s.aBits k (by omega)]
  simp only [activeCfgWord, BitVec.getLsbD_or, hbits, getLsbD_flagWord_shiftLeft _ (by decide : 8 < 64),
    getLsbD_flagWord_shiftLeft _ (by decide : 9 < 64), getLsbD_flagWord_shiftLeft _ (by decide : 10 < 64)]

@[simp] theorem statusWord_afterReset (s : State) : statusWord s.afterReset = 0 := by simp [statusWord, flagWord]

@[simp] theorem activeCfgWord_afterReset (s : State) : activeCfgWord s.afterReset = 0 := by
  simp [activeCfgWord, flagWord]

theorem extractLsb'_eq_field {w : Word} {lo len : Nat} {f : BitVec len}
    (h : ∀ k < len, w.getLsbD (lo + k) = f.getLsbD k) : w.extractLsb' lo len = f := by
  apply BitVec.eq_of_getLsbD_eq
  intro k hk
  rw [BitVec.getLsbD_extractLsb', h k hk, decide_eq_true hk, Bool.true_and]

/-- Settles O11: each field of STATUS is read off its bits. -/
theorem statusLayout : Obligations.StatusLayout := by
  refine ⟨fun s => ?_, fun s t h => by cases h; exact statusWord_afterReset s⟩
  have hbit := getLsbD_statusWord s
  refine ⟨(hbit 0).trans (by simp), (hbit 1).trans (by simp), (hbit 2).trans (by simp),
    extractLsb'_eq_field fun k hk => (hbit _).trans ?_, extractLsb'_eq_field fun k hk => (hbit _).trans ?_,
    extractLsb'_eq_field fun k hk => (hbit _).trans ?_, fun _ => rfl⟩
  · have : 3 + k ≠ 1 ∧ 3 + k ≠ 2 ∧ ¬ 8 ≤ 3 + k := by omega
    simp [this]
  · have : 8 + k ≠ 1 ∧ 8 + k ≠ 2 := by omega
    simp [this]
  · have : 12 + k ≠ 1 ∧ 12 + k ≠ 2 := by omega
    simp [this, BitVec.getLsbD_of_ge s.lastErr (12 + k - 8) (by omega)]

/-- Settles O12: each field of A_CFG is read off its bits. -/
theorem activeConfigurationReads : Obligations.ActiveConfigurationReads := by
  intro s
  have hbit := getLsbD_activeCfgWord s
  refine ⟨extractLsb'_eq_field fun k hk => (hbit _).trans ?_, (hbit 8).trans (by simp), (hbit 9).trans (by simp),
    (hbit 10).trans (by simp), extractLsb'_eq_field fun k hk => (hbit _).trans ?_,
    extractLsb'_eq_field fun k hk => (hbit _).trans ?_, rfl, rfl, rfl, rfl, rfl, rfl, rfl, rfl, rfl⟩
  · have : k ≠ 8 ∧ k ≠ 9 ∧ k ≠ 10 := by omega
    simp [this]
  · have : 6 + k ≠ 8 ∧ 6 + k ≠ 9 ∧ 6 + k ≠ 10 := by omega
    simp [this]
  · have : 11 + k ≠ 8 ∧ 11 + k ≠ 9 ∧ 11 + k ≠ 10 := by omega
    simp [this, BitVec.getLsbD_of_ge s.aBits (11 + k) (by omega)]

/-! ## Reset (R53) -/

theorem regRead_afterReset (s : State) (i : RegIndex) : regRead i s.afterReset = 0 := by
  unfold regRead
  split
  · simp [tableWindow]
  · split <;> simp [resultView]

/-- Settles O15: the reset state is what a reset event leaves of the state whose next draw is the first. -/
theorem resetValuesAndReads : Obligations.ResetValuesAndReads :=
  ⟨fun s => ⟨s.afterReset, rfl, rfl, rfl, rfl, rfl, rfl, rfl, rfl, rfl, rfl, rfl, rfl, rfl, rfl, rfl, rfl, rfl, rfl,
    rfl, rfl, rfl, rfl, regRead_afterReset s⟩, regRead_afterReset { State.reset with draws := 0 }⟩

/-! ## Which accesses write ACC and the active configuration (R34, R36, R37) -/

/-- Settles O55: ACC changes in the outcomes of the listed commands alone; its range is in the invariant. -/
theorem onlyListedCommandsWriteAcc : Obligations.OnlyListedCommandsWriteAcc := by
  refine ⟨fun _ => ⟨rfl, fun _ => rfl⟩, fun a s t h hne => ?_, fun s t h => by cases h; rfl, fun a s t hs h =>
    (stateInv_of_accessCase hs (hostStep_cases h)).acc⟩
  cases accessKind_of_hostStep h with
  | quiet _ _ hq => exact absurd hq.acc hne
  | command w i hw hd he => exact .inl ⟨w, i, hw, hd, writesAcc_of_execCase he hne⟩
  | illegal _ _ _ ht => exact absurd (ht ▸ rfl) hne
  | reset ha => exact .inr ha

/-- Settles O56: only CONFIGURE's outcomes change the configuration; the derived values are in the invariant. -/
theorem onlyConfigureAndResetWriteConfiguration : Obligations.OnlyConfigureAndResetWriteConfiguration := by
  refine ⟨fun a s t h hc hr => ?_, fun a s t hs h => (stateInv_of_accessCase hs (hostStep_cases h)).derived⟩
  cases accessKind_of_hostStep h with
  | quiet _ _ hq => exact hq.active
  | command w i hw hd he => exact sameActive_of_execCase he fun hi => hc ⟨w, i, hw, hd, hi⟩
  | illegal _ _ _ ht => rw [ht]; exact sameActive_refl s
  | reset ha => exact absurd ha hr

/-! ## Which accesses write the flags (R42) -/

/-- Settles O57: an access without a command keeps the flags, a command writes them as its outcome says, an illegal
word sets ERR_STICKY alone, and the reset event clears them all. -/
theorem flagWriters : Obligations.FlagWriters := by
  intro a s t h
  cases accessKind_of_hostStep h with
  | quiet hn hr hq =>
    have hcarry := not_carries_of_no_command hn
    have hcfg := hq.active.1
    have htab := hq.tableValid
    have hsticky := hq.errSticky
    simp_all [hq.lastErr]
  | command w i hw hd he =>
    have hcfg := cfgValid_of_execCase he
    have htab := tableValid_of_execCase he
    have herr := errorRecord_of_execCase he
    have hne := @code_ne_zero
    simp only [carries_iff_of_command hw hd]
    grind
  | illegal w hw hd ht =>
    have hcarry : ∀ p, ¬ Carries a p := not_carries_of_illegal hw hd
    have hcode : OutcomeCode.illegal.code ≠ 0 := by decide
    subst ht
    simp_all
  | reset ha ht =>
    have hcarry : ∀ p, ¬ Carries a p := not_carries_of_no_command (ha ▸ rfl)
    subst ht
    simp_all

/-! ## A clear ERR_STICKY (R289) -/

/-- Only CLEAR_ERR and the reset event clear ERR_STICKY (R42). -/
theorem errSticky_of_accessKind (h : AccessKind s a t) (hk : KeepsErrorRecord a) (hs : s.errSticky = true) :
    t.errSticky = true := by
  obtain ⟨hr, hclear⟩ := hk
  cases h with
  | quiet _ _ hq => rw [hq.errSticky, hs]
  | command w i hw hd he =>
    obtain ⟨-, hkept | ⟨rfl, -⟩⟩ | ⟨_, -, -, hset⟩ := errorRecord_of_execCase he
    · rw [hkept, hs]
    · exact absurd hd (hclear w hw)
    · exact hset
  | illegal _ _ _ ht => rw [ht]; rfl
  | reset ha => exact absurd ha hr

/-- What every step keeps, every run keeps. -/
theorem runs_keep {P : State → Prop} (hstep : ∀ s t, P s → step s = .next t → P t) :
    ∀ {k : Nat} {s t : State}, runs k s t → P s → P t
  | 0, _, _, h, hs => h ▸ hs
  | _ + 1, s, _, ⟨u, hu, hr⟩, hs => runs_keep hstep hr (hstep s u hs hu)

/-- A run of `k` steps from a state has one end. -/
theorem runs_unique : ∀ {k : Nat} {s t u : State}, runs k s t → runs k s u → t = u
  | 0, _, _, _, ht, hu => ht.trans hu.symm
  | _ + 1, _, _, _, ⟨v, hv, ht⟩, ⟨v', hv', hu⟩ => by
    obtain rfl : v = v' := by simpa [hv] using hv'
    exact runs_unique ht hu

/-- No access to come is a reset or a CLEAR_ERR. -/
def PendingKeepsErrorRecord (s : State) : Prop := ∀ a ∈ s.pending, KeepsErrorRecord a

theorem step_keeps_pendingKeepsErrorRecord (h : PendingKeepsErrorRecord s) (hstep : step s = .next t) :
    PendingKeepsErrorRecord t := by
  obtain ⟨-, rfl⟩ | ⟨a, rest, hp, hc⟩ := step_cases hstep
  · exact h
  · intro b hb
    rw [pending_of_accessCase hc] at hb
    exact h b (hp ▸ List.mem_cons_of_mem a hb)

theorem step_keeps_errSticky (h : PendingKeepsErrorRecord s) (hs : s.errSticky = true) (hstep : step s = .next t) :
    t.errSticky = true := by
  obtain ⟨-, rfl⟩ | ⟨a, rest, hp, hc⟩ := step_cases hstep
  · exact hs
  · exact errSticky_of_accessKind (accessKind_of_accessCase hc) (h a (by simp [hp])) hs

/-- Once set, ERR_STICKY stays set to the end of the run. -/
theorem runs_keep_errSticky : ∀ {k : Nat} {s t : State}, runs k s t → PendingKeepsErrorRecord s →
    s.errSticky = true → t.errSticky = true
  | 0, _, _, h, _, hs => h ▸ hs
  | _ + 1, _, _, ⟨_, hu, hr⟩, hp, hs =>
    runs_keep_errSticky hr (step_keeps_pendingKeepsErrorRecord hp hu) (step_keeps_errSticky hp hs hu)

/-- Settles O49: ERR_STICKY, once set, would be set at the end of the run; and where it is clear, LAST_ERR is OK. -/
theorem clearStickyShowsNoFailure : Obligations.ClearStickyShowsNoFailure := by
  intro k s t hinv hpend hrun hclear j u hjk hju
  obtain ⟨u', hju', hut⟩ := exists_middle_of_runs_add (Nat.add_sub_cancel' hjk ▸ hrun)
  obtain rfl := runs_unique hju hju'
  have hu : StateInv u := runs_keep stepKeepsStateInv hju hinv
  have hupend : PendingKeepsErrorRecord u := runs_keep (fun _ _ => step_keeps_pendingKeepsErrorRecord) hju hpend
  have hsticky : u.errSticky = false := by
    cases hs : u.errSticky with
    | false => rfl
    | true => rw [← hclear, runs_keep_errSticky hut hupend hs]
  exact ⟨hsticky, by_contra fun hne => absurd (hu.errors.2 hne) (by simp [hsticky])⟩

end Sys2Proof.Proofs
end

section
/-! PROOFS. What no command can see: the staging registers, for every command but CONFIGURE (R34, R52, R284), and the
table RAM's contents while TABLE_VALID is 0 (R50, R52). Both are a change of the state that keeps what a command reads
and commutes with what it writes; so the command answers the changed state of what it answers without the change. -/

namespace Sys2Proof.Proofs

open Sys2Proof Sys2Proof.Machine Sys2Proof.Safety

variable {s s' t : State} {i : Instr}

/-! ## The outcomes of a command are its meaning -/

/-- The listed outcomes are the outcomes: the converse of `exec_cases`. -/
theorem exec_of_execCase (h : ExecCase s i t) : exec i s = .next t := by
  cases h with
  | nop => rfl
  | latched h => exact if_pos h
  | deconfigured h => exact if_neg (by simp [h])
  | built h => exact needConfigured_of h _
  | started h => exact needConfigured_of h _
  | resumed h ho => exact (needConfigured_of h _).trans (needOperandInRange_of ho _)
  | slow d h => exact needConfigured_of h _
  | fast d h ht => exact (needConfigured_of h _).trans (needTable_of ht _)
  | finalized h ho => exact (needConfigured_of h _).trans (needOperandInRange_of ho _)
  | unfinalized h ho => exact (needConfigured_of h _).trans (needOperandInRange_of ho _)
  | bits n h => exact if_pos h
  | bytes n h => exact if_pos h
  | cleared => rfl
  | notConfigured hi h =>
    obtain rfl | rfl | rfl | ⟨d, rfl⟩ | ⟨d, rfl⟩ | rfl | rfl := hi <;> exact needConfigured_absent h _
  | noTable d h ht => exact (needConfigured_of h _).trans (needTable_absent ht _)
  | operandRange hi h ho =>
    obtain rfl | rfl | rfl := hi <;> exact (needConfigured_of h _).trans (needOperandInRange_above ho _)
  | illegalBits n h => exact if_neg (Nat.not_le.mpr h)
  | illegalBytes n h => exact if_neg (Nat.not_le.mpr h)

/-! ## What the computations read (R34) -/

theorem inputByte_of_sameActive (ha : SameActive s t) (d : Byte) : inputByte t d = inputByte s d := by
  obtain ⟨-, -, hrefin, -⟩ := ha
  rw [inputByte, inputByte, hrefin]

theorem slowStep_of_sameActive (ha : SameActive s t) (crc : Word) (d : Byte) : slowStep t crc d = slowStep s crc d := by
  have hin := inputByte_of_sameActive ha d
  obtain ⟨-, hbits, -, -, -, hpoly, -, -, hmask, htop, -⟩ := ha
  rw [slowStep, slowStep, hin, topByteShift, topByteShift, hbits, div8, div8, divRounds_congr hmask htop hpoly]

theorem fastStep_of_sameActive (ha : SameActive s t) (ht : t.table = s.table) (crc : Word) (d : Byte) :
    fastStep t crc d = fastStep s crc d := by
  have hin := inputByte_of_sameActive ha d
  obtain ⟨-, hbits, -, -, -, -, -, -, hmask, -⟩ := ha
  rw [fastStep, fastStep, lookupIndex, lookupIndex, hin, topByteShift, topByteShift, hbits, hmask, ht]

theorem finalized_of_sameActive (ha : SameActive s t) (x : Word) : finalized t x = finalized s x := by
  obtain ⟨-, hbits, -, hrb, hry, -, -, hxor, -, -, hnb⟩ := ha
  rw [finalized, finalized, hbits, hrb, hry, hxor, hnb]

theorem unfinalized_of_sameActive (ha : SameActive s t) (x : Word) : unfinalized t x = unfinalized s x := by
  obtain ⟨-, hbits, -, hrb, hry, -, -, hxor, -, -, hnb⟩ := ha
  rw [unfinalized, unfinalized, hbits, hrb, hry, hxor, hnb]

theorem builtTable_of_sameActive (ha : SameActive s t) : builtTable t = builtTable s :=
  tableRam_ext fun k => by rw [memRead_builtTable, memRead_builtTable, tableEntry_of_sameActive ha]

/-! ## Changes of the state that a command does not see -/

/-- The change keeps every register a command other than CONFIGURE reads, and commutes with every write of one other
than BUILD_TABLE. -/
structure Unseen (f : State → State) : Prop where
  active : ∀ s, SameActive s (f s)
  operand : ∀ s, (f s).operand = s.operand
  acc : ∀ s, (f s).acc = s.acc
  tableValid : ∀ s, (f s).tableValid = s.tableValid
  succeeded : ∀ s, f s.succeeded = (f s).succeeded
  failed : ∀ s e, f (s.failed e) = (f s).failed e
  errorCleared : ∀ s, f s.errorCleared = (f s).errorCleared
  withAcc : ∀ s v, f (s.withAcc v) = (f s).withAcc v
  withAuxout : ∀ s v, f (s.withAuxout v) = (f s).withAuxout v

/-- A command other than CONFIGURE answers the changed state, unless it builds the table. -/
theorem execCase_of_unseen {f : State → State} (hf : Unseen f) (htab : s.tableValid = true → (f s).table = s.table)
    (h : ExecCase s i t) (hi : i ≠ .configure) :
    (ExecCase (f s) i (f t) ∧ t.table = s.table ∧ t.tableValid = s.tableValid) ∨
    (i = .buildTable ∧ s.cfgValid = true ∧ t = (s.withTable (builtTable s)).succeeded) := by
  have ha := hf.active s
  have hcfg : (f s).cfgValid = s.cfgValid := ha.1
  have hop := hf.operand s
  have hle : (f s).operand ≤ (f s).mask ↔ s.operand ≤ s.mask := by
    obtain ⟨-, -, -, -, -, -, -, -, hmask, -⟩ := ha
    rw [hop, hmask]
  have hlt : (f s).mask < (f s).operand ↔ s.mask < s.operand := by
    rw [← BitVec.not_le, ← BitVec.not_le, hle]
  have hinit : (f s).aInit = s.aInit := by
    obtain ⟨-, -, -, -, -, -, hinit, -⟩ := ha
    exact hinit
  cases h with
  | latched => exact absurd rfl hi
  | deconfigured => exact absurd rfl hi
  | built h => exact .inr ⟨rfl, h, rfl⟩
  | nop => exact .inl ⟨hf.succeeded s ▸ .nop, rfl, rfl⟩
  | cleared => exact .inl ⟨by rw [hf.succeeded, hf.errorCleared]; exact .cleared, rfl, rfl⟩
  | started h =>
    rw [hf.succeeded, hf.withAcc, ← hinit]
    exact .inl ⟨.started (hcfg.trans h), rfl, rfl⟩
  | resumed h ho =>
    rw [hf.succeeded, hf.withAcc, ← unfinalized_of_sameActive ha, ← hop]
    exact .inl ⟨.resumed (hcfg.trans h) (hle.mpr ho), rfl, rfl⟩
  | slow d h =>
    rw [hf.succeeded, hf.withAcc, ← slowStep_of_sameActive ha, ← hf.acc]
    exact .inl ⟨.slow d (hcfg.trans h), rfl, rfl⟩
  | fast d h ht =>
    rw [hf.succeeded, hf.withAcc, ← fastStep_of_sameActive ha (htab ht), ← hf.acc]
    exact .inl ⟨.fast d (hcfg.trans h) ((hf.tableValid s).trans ht), rfl, rfl⟩
  | finalized h ho =>
    rw [hf.succeeded, hf.withAuxout, ← finalized_of_sameActive ha, ← hop]
    exact .inl ⟨.finalized (hcfg.trans h) (hle.mpr ho), rfl, rfl⟩
  | unfinalized h ho =>
    rw [hf.succeeded, hf.withAuxout, ← unfinalized_of_sameActive ha, ← hop]
    exact .inl ⟨.unfinalized (hcfg.trans h) (hle.mpr ho), rfl, rfl⟩
  | bits n h =>
    rw [hf.succeeded, hf.withAuxout, ← hop]
    exact .inl ⟨.bits n h, rfl, rfl⟩
  | bytes n h =>
    rw [hf.succeeded, hf.withAuxout, ← hop]
    exact .inl ⟨.bytes n h, rfl, rfl⟩
  | notConfigured hi h => exact .inl ⟨hf.failed s _ ▸ .notConfigured hi (hcfg.trans h), rfl, rfl⟩
  | noTable d h ht =>
    exact .inl ⟨hf.failed s _ ▸ .noTable d (hcfg.trans h) ((hf.tableValid s).trans ht), rfl, rfl⟩
  | operandRange hi h ho => exact .inl ⟨hf.failed s _ ▸ .operandRange hi (hcfg.trans h) (hlt.mpr ho), rfl, rfl⟩
  | illegalBits n h => exact .inl ⟨hf.failed s _ ▸ .illegalBits n h, rfl, rfl⟩
  | illegalBytes n h => exact .inl ⟨hf.failed s _ ▸ .illegalBytes n h, rfl, rfl⟩

/-! ## The staging registers (R34, R284) -/

/-- The state with other values in the four staging registers. -/
def withStaging (c : BitVec 11) (p n x : Word) (s : State) : State :=
  { s with stgCfg := c, stgPoly := p, stgInit := n, stgXorout := x }

theorem unseen_withStaging (c : BitVec 11) (p n x : Word) : Unseen (withStaging c p n x) :=
  ⟨sameActive_refl, fun _ => rfl, fun _ => rfl, fun _ => rfl, fun _ => rfl, fun _ _ => rfl, fun _ => rfl,
    fun _ _ => rfl, fun _ _ => rfl⟩

theorem execCase_withStaging (c : BitVec 11) (p n x : Word) (h : ExecCase s i t) (hi : i ≠ .configure) :
    ExecCase (withStaging c p n x s) i (withStaging c p n x t) := by
  obtain ⟨he, -⟩ | ⟨rfl, hv, rfl⟩ := execCase_of_unseen (unseen_withStaging c p n x) (fun _ => rfl) h hi
  · exact he
  · have hbuilt : builtTable (withStaging c p n x s) = builtTable s := builtTable_of_sameActive (sameActive_refl s)
    exact hbuilt ▸ ExecCase.built (s := withStaging c p n x s) hv

/-- Settles O59: the staging registers are such a change, and an illegal word reads none of them. -/
theorem stagingIsInertUntilConfigure : Obligations.StagingIsInertUntilConfigure := by
  intro w s t c p n x hw h
  obtain ⟨i, hd, he⟩ | ⟨hd, rfl⟩ := executeWord_cases h
  · have hi : i ≠ .configure := fun hi => hw (hi ▸ hd)
    exact (executeWord_of_decode hd _).trans (exec_of_execCase (execCase_withStaging c p n x he hi))
  · rw [executeWord, hd]
    rfl

/-! ## The table RAM while TABLE_VALID is 0 (R50, R52) -/

/-- The state with another table RAM and draw counter. -/
def withHidden (tab : TableRam) (d : Nat) (s : State) : State := { s with table := tab, draws := d }

theorem unseen_withHidden (tab : TableRam) (d : Nat) : Unseen (withHidden tab d) :=
  ⟨sameActive_refl, fun _ => rfl, fun _ => rfl, fun _ => rfl, fun _ => rfl, fun _ _ => rfl, fun _ => rfl,
    fun _ _ => rfl, fun _ _ => rfl⟩

/-- States that look the same differ by a change of the hidden parts. -/
theorem exists_withHidden_of_sameVisible (h : SameVisible s s') :
    ∃ tab d, s' = withHidden tab d s ∧ (s.tableValid = true → tab = s.table) :=
  ⟨s'.table, s'.draws, h.1.symm, fun hv => tableRam_ext (h.2 hv)⟩

/-- The second result is the first one's counterpart: a state that looks the same, or the same refusal. -/
structure SameOutcome (r r' : Result) : Prop where
  next : ∀ t, r = .next t → ∃ t', r' = .next t' ∧ SameVisible t t'
  refused : ∀ q, r = .refused q → r' = .refused q

theorem sameOutcome_next (h : SameVisible s s') : SameOutcome (.next s) (.next s') :=
  ⟨fun _ ht => ⟨s', rfl, by cases ht; exact h⟩, nofun⟩

theorem sameOutcome_refused (q : Refusal) : SameOutcome (.refused q) (.refused q) := ⟨nofun, fun _ h => h⟩

section

variable {tab : TableRam} (d : Nat) (h : s.tableValid = true → tab = s.table)

include h

theorem sameVisible_withHidden : SameVisible s (withHidden tab d s) :=
  ⟨rfl, fun hv k => congrArg (memRead · k) (h hv)⟩

theorem regRead_withHidden (k : RegIndex) : regRead k (withHidden tab d s) = regRead k s := by
  have hwindow (e : EntryIndex) : tableWindow (withHidden tab d s) e = tableWindow s e := by
    unfold tableWindow
    cases hv : s.tableValid with
    | true => simp [withHidden, hv, h hv]
    | false => simp [withHidden, hv]
  unfold regRead
  rw [hwindow]
  rfl

/-- Every outcome of a command has its counterpart under the other hidden parts. -/
theorem execCase_withHidden (he : ExecCase s i t) : ∃ t', ExecCase (withHidden tab d s) i t' ∧ SameVisible t t' := by
  by_cases hi : i = .configure
  · subst hi
    obtain ⟨hl, rfl⟩ | ⟨hl, rfl⟩ := configure_cases he
    · exact ⟨_, .latched hl, rfl, nofun⟩
    · exact ⟨_, .deconfigured hl, rfl, nofun⟩
  · obtain ⟨he, ht, hv⟩ | ⟨rfl, hv, rfl⟩ := execCase_of_unseen (unseen_withHidden tab d) h he hi
    · exact ⟨_, he, sameVisible_withHidden d fun htv => (h (hv ▸ htv)).trans ht.symm⟩
    · have hbuilt : builtTable (withHidden tab d s) = builtTable s := builtTable_of_sameActive (sameActive_refl s)
      exact ⟨_, .built hv, rfl, fun _ k => congrArg (memRead · k) hbuilt⟩

theorem sameOutcome_executeWord (w : Word) :
    SameOutcome (executeWord w s) (executeWord w (withHidden tab d s)) := by
  unfold executeWord
  split
  · next i _ =>
    obtain ⟨t, ht⟩ := exec_total i s
    obtain ⟨t', he', hvis⟩ := execCase_withHidden d h (exec_cases ht)
    rw [ht, exec_of_execCase he']
    exact sameOutcome_next hvis
  · exact sameOutcome_next (sameVisible_withHidden d h)

theorem sameOutcome_regWrite (k : RegIndex) (v : Word) :
    SameOutcome (regWrite k v s) (regWrite k v (withHidden tab d s)) := by
  unfold regWrite
  split
  case h_6 => exact sameOutcome_executeWord d h v
  all_goals exact sameOutcome_next (sameVisible_withHidden d h)

theorem sameOutcome_hostRead (k : RegIndex) :
    SameOutcome (hostRead k s) (hostRead k (withHidden tab d s)) := by
  rw [hostRead, hostRead, regRead_withHidden d h]
  exact sameOutcome_next (sameVisible_withHidden d h)

theorem sameOutcome_hostStep (a : HostAccess) :
    SameOutcome (hostStep a s) (hostStep a (withHidden tab d s)) := by
  cases a with
  | read k => exact sameOutcome_hostRead d h k
  | write k v => exact sameOutcome_regWrite d h k v
  | busRead addr size =>
    simp only [hostStep]
    split
    · exact sameOutcome_hostRead d h _
    · exact sameOutcome_refused _
  | busWrite addr size v =>
    simp only [hostStep]
    split
    · exact sameOutcome_regWrite d h _ v
    · exact sameOutcome_refused _
  | reset => exact sameOutcome_next ⟨rfl, nofun⟩

theorem sameOutcome_step : SameOutcome (step s) (step (withHidden tab d s)) := by
  cases hp : s.pending with
  | nil =>
    rw [step_of_no_pending hp, step_of_no_pending (s := withHidden tab d s) hp]
    exact sameOutcome_next (sameVisible_withHidden d h)
  | cons a rest =>
    rw [step_of_pending hp, step_of_pending (s := withHidden tab d s) hp]
    exact sameOutcome_hostStep (s := s.withPending rest) d h a

end

/-- Settles O58: what looks the same differs by a change of the hidden parts, which no read shows and every step
keeps hidden. -/
theorem unbuiltTableIsNotObservable : Obligations.UnbuiltTableIsNotObservable := by
  intro s s' hvis
  obtain ⟨tab, d, rfl, htab⟩ := exists_withHidden_of_sameVisible hvis
  have hstep := sameOutcome_step d htab
  exact ⟨fun k => (regRead_withHidden d htab k).symm, hstep.next, hstep.refused⟩

end Sys2Proof.Proofs
end

section
/-! PROOFS. The host's side of the register space: a read changes nothing and a write but to CMD is idempotent (R86),
what is dropped and what reads 0 (R85), the byte-addressed view (R84, R89), and that an error neither stops the block
nor changes what a later command does (R253). -/

namespace Sys2Proof.Proofs

open Sys2Proof Sys2Proof.Machine Sys2Proof.Safety

variable {s t : State} {i : Instr} {a : HostAccess}

/-! ## Reads and writes by index (R82, R83, R85, R86) -/

theorem regRead_withRead (v : Word) (k : RegIndex) : regRead k (s.withRead v) = regRead k s := rfl

/-- The indices above CMD are read-only or unmapped (R33, R85). -/
theorem regWrite_of_six_le {k : RegIndex} (hk : 6 ≤ k.toNat) (v : Word) (s : State) : regWrite k v s = .next s := by
  unfold regWrite
  split
  case h_7 => rfl
  all_goals omega

/-- An index other than CMD is one of the five host-writable registers, or a write to it is dropped (R33). -/
theorem writable_or_six_le {k : RegIndex} (hk : k ≠ 0x005) :
    (k = 0 ∨ k = 1 ∨ k = 2 ∨ k = 3 ∨ k = 4) ∨ 6 ≤ k.toNat := by
  bv_omega

theorem regWrite_idempotent {k : RegIndex} (hk : k ≠ 0x005) {v : Word} (h : regWrite k v s = .next t) :
    regWrite k v t = .next t := by
  obtain (rfl | rfl | rfl | rfl | rfl) | hro := writable_or_six_le hk
  case inr => exact regWrite_of_six_le hro v t
  all_goals cases h; rfl

theorem decode_encode_updateSlow (d : Byte) : decode (encode (.updateSlow d)) = some (.updateSlow d) := by
  simp [decode, encode, demand]

/-- Two UPDATE_SLOW commands of the same byte process it twice (R86, R172). -/
theorem updateSlow_twice (h : s.cfgValid = true) (d : Byte) :
    ∃ t u, regWrite 0x005 (encode (.updateSlow d)) s = .next t ∧
      regWrite 0x005 (encode (.updateSlow d)) t = .next u ∧
      t.acc = accAfter s s.acc [d] ∧ u.acc = accAfter s s.acc [d, d] := by
  have hrun {r : State} (hr : r.cfgValid = true) : regWrite 0x005 (encode (.updateSlow d)) r =
      .next (r.withAcc (slowStep r r.acc d)).succeeded :=
    (executeWord_of_decode (decode_encode_updateSlow d) r).trans (exec_of_execCase (.slow d hr))
  exact ⟨_, _, hrun h, hrun h, rfl, slowStep_of_sameActive (sameActive_refl s) _ d⟩

/-- The state after CONFIGURE with BITS 8 and POLY 0x07, everything else as after reset. -/
def eightBitConfigured : State := { State.reset with stgCfg := 0x008, stgPoly := 0x07 }.configured.succeeded

theorem ready_eightBitConfigured : Ready eightBitConfigured := by
  have hstaged : StateInv { State.reset with stgCfg := 0x008, stgPoly := 0x07 } :=
    stateInv_of_quiet resetMeetsStateInv ⟨sameActive_refl State.reset, rfl, rfl, rfl, rfl, rfl⟩ ⟨rfl, rfl⟩
  exact ⟨stateInv_of_execCase hstaged (.latched (by decide)), rfl⟩

/-- Settles O8: the value read is recorded beside the block's state, the five writes overwrite, and in the 8-bit
configuration the byte 0x01 processed once and twice leaves different accumulators. -/
theorem readsAreFreeOfSideEffects : Obligations.ReadsAreFreeOfSideEffects := by
  refine ⟨fun s k => ⟨_, rfl, rfl⟩, fun s t k j h => ?_, fun s t k v hk h => regWrite_idempotent hk h, ?_⟩
  · cases h
    exact regRead_withRead _ j
  · obtain ⟨t, u, ht, hu, hacct, haccu⟩ := updateSlow_twice (s := eightBitConfigured) rfl 0x01
    refine ⟨eightBitConfigured, t, u, 0x01, ready_eightBitConfigured, ht, hu, hacct, haccu, ?_⟩
    rw [hacct, haccu]
    decide

/-! ## Unmapped indices and reserved bits (R32, R41, R85) -/

/-- The gap between AUXOUT and the table window (R33). -/
theorem regRead_of_gap {k : RegIndex} (hlo : 0x013 ≤ k.toNat) (hhi : k.toNat ≤ 0x0FF) (s : State) :
    regRead k s = 0 := by
  rw [regRead, if_neg (by omega)]
  split
  case h_18 => rfl
  all_goals omega

theorem cfgStored_and_mask (v : Word) : cfgStored (v &&& 0x73F) = cfgStored v := by
  rw [cfgStored, cfgStored, BitVec.and_assoc, BitVec.and_self]

/-- Settles O10: the reserved bits are those in which no field of the register stands. -/
theorem unmappedAndReadOnlyAccesses : Obligations.UnmappedAndReadOnlyAccesses := by
  refine fun s => ⟨fun k v hk => regWrite_of_six_le hk v s, fun k hk => ?_, fun hs k hk => ?_, fun k hk => ?_,
    fun k hk => ?_, fun v => ?_⟩
  · obtain rfl | rfl | ⟨hlo, hhi⟩ := hk
    · rfl
    · rfl
    · exact regRead_of_gap hlo hhi s
  · change (s.stgCfg.setWidth 64).getLsbD k = false
    obtain ⟨hsix, hseven⟩ := hs
    rw [BitVec.getLsbD_setWidth]
    obtain rfl | rfl | hk := hk
    · rw [hsix, Bool.and_false]
    · rw [hseven, Bool.and_false]
    · rw [BitVec.getLsbD_of_ge s.stgCfg k hk, Bool.and_false]
  · refine (getLsbD_statusWord s k).trans ?_
    have hflags : k ≠ 0 ∧ k ≠ 1 ∧ k ≠ 2 := by omega
    obtain hk | hk := hk
    · have hlow : ¬ 8 ≤ k := by omega
      simp [hflags, hlow]
    · simp [hflags, BitVec.getLsbD_of_ge s.lastErr (k - 8) (by omega)]
  · refine (getLsbD_activeCfgWord s k).trans ?_
    have hflags : k ≠ 8 ∧ k ≠ 9 ∧ k ≠ 10 := by omega
    simp [hflags, BitVec.getLsbD_of_ge s.aBits k (by omega)]
  · exact congrArg (fun c => Host.Outcome.next { s with stgCfg := c }) (cfgStored_and_mask v).symm

/-! ## The byte-addressed bus (R84, R89) -/

/-- A bus access names the register at `base + 8 * index`, and only if it is 8 bytes long (log 6). -/
theorem busIndex_eq_some_iff {addr size : Nat} {k : RegIndex} :
    busIndex addr size = some k ↔ size = 8 ∧ addr = Config.base + 8 * k.toNat := by
  have haligned : Config.base % 8 = 0 := Nat.mul_mod_right 8 _
  have hk := k.isLt
  unfold busIndex
  constructor
  · intro h
    obtain ⟨⟨hsize, halign, hle, hlt⟩, hindex⟩ := Option.ite_none_right_eq_some.mp h
    obtain rfl := Option.some.inj hindex
    refine ⟨hsize, ?_⟩
    rw [BitVec.toNat_ofNat, Nat.mod_eq_of_lt hlt]
    omega
  · rintro ⟨rfl, rfl⟩
    have hdiv : (Config.base + 8 * k.toNat - Config.base) / 8 = k.toNat := by omega
    rw [hdiv, if_pos ⟨rfl, by omega, by omega, hk⟩, BitVec.ofNat_toNat, BitVec.setWidth_eq]

theorem busIndex_eq_none {addr size : Nat} (h : size ≠ 8 ∨ ∀ k : RegIndex, addr ≠ Config.base + 8 * k.toNat) :
    busIndex addr size = none := by
  refine Option.eq_none_iff_forall_ne_some.mpr fun k hk => ?_
  obtain ⟨hsize, haddr⟩ := busIndex_eq_some_iff.mp hk
  exact h.elim (· hsize) (· k haddr)

/-- Settles O16: a bus access is decided by the index it names. -/
theorem busAdmitsWholeRegistersOnly : Obligations.BusAdmitsWholeRegistersOnly := by
  refine fun s addr size v => ⟨fun k hsize haddr => ?_, fun h => ?_⟩
  · have hk := busIndex_eq_some_iff.mpr ⟨hsize, haddr⟩
    simp [hostStep, hk]
  · have hnone := busIndex_eq_none h
    simp [hostStep, hnone]

/-! ## Errors do not stop the block (R253) -/

theorem executeWord_of_illegal {w : Word} (hd : decode w = none) (s : State) :
    executeWord w s = .next (s.failed .illegal) := by
  rw [executeWord, hd, raiseError_eq]

theorem executeWord_total (w : Word) (s : State) : ∃ t, executeWord w s = .next t := by
  cases hd : decode w with
  | some i => exact executeWord_of_decode hd s ▸ exec_total i s
  | none => exact ⟨_, executeWord_of_illegal hd s⟩

theorem regWrite_total (k : RegIndex) (v : Word) (s : State) : ∃ t, regWrite k v s = .next t := by
  unfold regWrite
  split
  case h_6 => exact executeWord_total v s
  all_goals exact ⟨_, rfl⟩

/-- Every access but an inadmissible bus access is taken (R89, R91, R253). -/
theorem hostStep_total (hread : ∀ addr size, a = .busRead addr size → busIndex addr size ≠ none)
    (hwrite : ∀ addr size v, a = .busWrite addr size v → busIndex addr size ≠ none) (s : State) :
    ∃ t, hostStep a s = .next t := by
  cases a with
  | read k => exact ⟨_, rfl⟩
  | write k v => exact regWrite_total k v s
  | busRead addr size =>
    obtain ⟨k, hk⟩ := Option.ne_none_iff_exists'.mp (hread addr size rfl)
    exact ⟨s.withRead (regRead k s), by simp only [hostStep, hk, hostRead]⟩
  | busWrite addr size v =>
    obtain ⟨k, hk⟩ := Option.ne_none_iff_exists'.mp (hwrite addr size v rfl)
    simpa only [hostStep, hk] using regWrite_total k v s
  | reset => exact ⟨_, rfl⟩

/-- The state with another error record. -/
def withErrorRecord (e : BitVec 4) (b : Bool) (s : State) : State := { s with lastErr := e, errSticky := b }

/-- The second state is the first but for ERR_STICKY. -/
def SameButSticky (t t' : State) : Prop := t'.lastErr = t.lastErr ∧ { t' with errSticky := t.errSticky } = t

/-- No command reads the error record: each outcome has its counterpart under another one. -/
theorem execCase_withErrorRecord (e : BitVec 4) (b : Bool) (h : ExecCase s i t) :
    ∃ t', ExecCase (withErrorRecord e b s) i t' ∧ SameButSticky t t' := by
  cases h with
  | nop => exact ⟨_, .nop, rfl, rfl⟩
  | latched hl => exact ⟨_, .latched hl, rfl, rfl⟩
  | deconfigured hl => exact ⟨_, .deconfigured hl, rfl, rfl⟩
  | built hv =>
    have hbuilt : builtTable (withErrorRecord e b s) = builtTable s := builtTable_of_sameActive (sameActive_refl s)
    exact ⟨((withErrorRecord e b s).withTable (builtTable s)).succeeded,
      hbuilt ▸ ExecCase.built (s := withErrorRecord e b s) hv, rfl, rfl⟩
  | started hv => exact ⟨_, .started hv, rfl, rfl⟩
  | resumed hv ho => exact ⟨_, .resumed hv ho, rfl, rfl⟩
  | slow d hv => exact ⟨_, .slow d hv, rfl, rfl⟩
  | fast d hv ht => exact ⟨_, .fast d hv ht, rfl, rfl⟩
  | finalized hv ho => exact ⟨_, .finalized hv ho, rfl, rfl⟩
  | unfinalized hv ho => exact ⟨_, .unfinalized hv ho, rfl, rfl⟩
  | bits n hn => exact ⟨_, .bits n hn, rfl, rfl⟩
  | bytes n hn => exact ⟨_, .bytes n hn, rfl, rfl⟩
  | cleared => exact ⟨_, .cleared, rfl, rfl⟩
  | notConfigured hi hv => exact ⟨_, .notConfigured hi hv, rfl, rfl⟩
  | noTable d hv ht => exact ⟨_, .noTable d hv ht, rfl, rfl⟩
  | operandRange hi hv ho => exact ⟨_, .operandRange hi hv ho, rfl, rfl⟩
  | illegalBits n hn => exact ⟨_, .illegalBits n hn, rfl, rfl⟩
  | illegalBytes n hn => exact ⟨_, .illegalBytes n hn, rfl, rfl⟩

/-- Settles O48: every access answers a next state whose pending list is kept, and each outcome of a command has its
counterpart under another error record. -/
theorem errorsNeverStopTheBlock : Obligations.ErrorsNeverStopTheBlock := by
  refine ⟨fun s a hread hwrite => ?_, fun w s t e b h => ?_⟩
  · obtain ⟨t, ht⟩ := hostStep_total hread hwrite s
    exact ⟨t, ht, pending_of_accessCase (hostStep_cases ht)⟩
  · obtain ⟨i, hd, he⟩ | ⟨hd, rfl⟩ := executeWord_cases h
    · obtain ⟨t', he', hsame⟩ := execCase_withErrorRecord e b he
      exact ⟨t', (executeWord_of_decode hd _).trans (exec_of_execCase he'), hsame⟩
    · exact ⟨_, executeWord_of_illegal hd _, rfl, rfl⟩

end Sys2Proof.Proofs
end

section
/-! PROOFS. The command word: a word decodes to a command exactly if its four fields are the command's (R111, R115,
R120). From this come the round trips of encoder and decoder (R116, R121), the illegal words (R117) and the match and
mask rows (R115). -/

namespace Sys2Proof.Proofs

open Sys2Proof Sys2Proof.Machine Sys2Proof.Safety

variable {w : Word} {i : Instr}

/-! ## The fields of a command (R111, R115) -/

/-- The command's OPC. -/
def opcField : Instr → Byte
  | .nop => 0x00
  | .configure => 0x01
  | .buildTable => 0x02
  | .start => 0x03
  | .resume => 0x04
  | .updateSlow _ => 0x05
  | .updateFast _ => 0x06
  | .finalizeOp => 0x07
  | .unfinalizeOp => 0x08
  | .reflectBits _ => 0x09
  | .reflectBytes _ => 0x0A
  | .clearErr => 0x0B

/-- The command's DATA, 0 where its row has none. -/
def dataField : Instr → Byte
  | .updateSlow data => data
  | .updateFast data => data
  | _ => 0

/-- The command's N, 0 where its row has none. -/
def countField : Instr → BitVec 7
  | .reflectBits n => n
  | .reflectBytes n => n
  | _ => 0

theorem encode_eq_assembleWord (i : Instr) : encode i = assembleWord (opcField i) (dataField i) (countField i) := by
  cases i <;> rfl

/-- The word's four fields are the command's, and its N is in the row's range. -/
structure FieldsOf (w : Word) (i : Instr) : Prop where
  rsv : rsvOf w = 0
  opc : opcOf w = opcField i
  data : dataOf w = dataField i
  count : nOf w = countField i
  wellFormed : i.wellFormed = true

/-- The four fields cover the word. -/
theorem fieldsOf_iff : FieldsOf w i ↔ encode i = w ∧ i.wellFormed = true := by
  constructor
  · intro h
    refine ⟨?_, h.wellFormed⟩
    rw [encode_eq_assembleWord, ← h.opc, ← h.data, ← h.count, assembleWord_fields h.rsv]
  · rintro ⟨rfl, hwf⟩
    rw [encode_eq_assembleWord]
    exact ⟨rsvOf_assembleWord .., opcOf_assembleWord .., dataOf_assembleWord .., nOf_assembleWord .., hwf⟩

/-! ## The decoder (R120) -/

theorem demand_eq_some {c : Prop} [Decidable c] {j : Instr} : demand c i = some j ↔ c ∧ i = j := by
  simp [demand]

theorem demand_eq_none {c : Prop} [Decidable c] : demand c i = none ↔ ¬ c := by
  simp [demand]

theorem fieldsOf_of_decode (h : decode w = some i) : FieldsOf w i := by
  obtain ⟨hrsv, h⟩ : rsvOf w = 0 ∧ _ := by simpa only [decode, ne_eq, ite_not, Option.ite_none_right_eq_some] using h
  split at h
  case h_13 => cases h
  all_goals
    rename_i hk
    have hopc := opcOf_eq_of_toNat (by decide) hk
    obtain ⟨hc, rfl⟩ := demand_eq_some.mp h
  case h_6 | h_7 => exact ⟨hrsv, hopc, rfl, hc, rfl⟩
  case h_10 | h_11 => exact ⟨hrsv, hopc, hc.1, rfl, decide_eq_true hc.2⟩
  all_goals exact ⟨hrsv, hopc, hc.1, hc.2, rfl⟩

theorem decode_of_fieldsOf (h : FieldsOf w i) : decode w = some i := by
  obtain ⟨hrsv, hopc, hdata, hcount, hwf⟩ := h
  cases i <;> simp_all [decode, demand, opcField, dataField, countField, Instr.wellFormed]

/-- What the decoder answers, said once: the command whose fields the word has. -/
theorem decode_eq_some_iff : decode w = some i ↔ FieldsOf w i := ⟨fieldsOf_of_decode, decode_of_fieldsOf⟩

/-- Settles O2: the assembled word has the fields it was assembled from. -/
theorem decodeOfEncodeIsSame : Obligations.DecodeOfEncodeIsSame :=
  fun _ hwf => decode_eq_some_iff.mpr (fieldsOf_iff.mpr ⟨rfl, hwf⟩)

/-- Settles O3: a word is determined by its fields. -/
theorem encodeOfDecodeIsSame : Obligations.EncodeOfDecodeIsSame :=
  fun _ _ h => fieldsOf_iff.mp (decode_eq_some_iff.mp h)

/-- Settles O1: each word is evaluated. -/
theorem encodedWordsDecode : Obligations.EncodedWordsDecode := by
  unfold Obligations.EncodedWordsDecode
  decide

/-! ## The illegal words (R114, R117, R118) -/

/-- R117's five items in the decoder's fields. -/
theorem illegalFields_iff : IllegalFields w ↔
    rsvOf w ≠ 0 ∨ 0x0C ≤ (opcOf w).toNat ∨
    ((opcOf w).toNat ≤ 0x0B ∧
      (((opcOf w).toNat ≠ 0x05 ∧ (opcOf w).toNat ≠ 0x06 ∧ dataOf w ≠ 0) ∨
        ((opcOf w).toNat ≠ 0x09 ∧ (opcOf w).toNat ≠ 0x0A ∧ nOf w ≠ 0))) ∨
    ((opcOf w).toNat = 0x09 ∧ 64 < (nOf w).toNat) ∨ ((opcOf w).toNat = 0x0A ∧ 8 < (nOf w).toNat) := by
  have hopc : (opcOf w).toNat ≤ 0xFF := Nat.le_of_lt_succ (opcOf w).isLt
  rw [← and_iff_left (a := 0x0C ≤ (opcOf w).toNat) hopc, ← BitVec.toNat_ne_iff_ne (x := dataOf w),
    ← BitVec.toNat_ne_iff_ne (x := nOf w)]
  rfl

/-- The decoder answers no command exactly for the words of R117's five items. -/
theorem decode_eq_none_iff : decode w = none ↔ IllegalFields w := by
  rw [illegalFields_iff]
  by_cases hrsv : rsvOf w = 0
  · rw [decode, if_neg (not_not.mpr hrsv)]
    split
    case h_13 =>
      have hopc : 0x0C ≤ (opcOf w).toNat := by simp only [imp_false] at *; omega
      simp [hopc]
    all_goals
      rename_i hopc
      simp [demand_eq_none, hrsv, hopc, imp_iff_not_or]
  · rw [decode, if_pos hrsv]
    exact iff_of_true rfl (.inl hrsv)

/-- Settles O4: the decoder's `none` is R117's list, and `executeWord` raises ILLEGAL on it. -/
theorem illegalWordsRaiseIllegalOnly : Obligations.IllegalWordsRaiseIllegalOnly :=
  fun _ => ⟨decode_eq_none_iff, fun h s => executeWord_of_illegal (decode_eq_none_iff.mpr h) s⟩

/-- An opcode's words are illegal outside the legal ones if R117's items list them. -/
theorem illegalUnless_of_illegalFields {opc : Nat} {legal : Word → Prop}
    (h : ∀ w, (opcOf w).toNat = opc → ¬ legal w → IllegalFields w) : IllegalUnless opc legal :=
  fun w s hopc hlegal => executeWord_of_illegal (decode_eq_none_iff.mpr (h w hopc hlegal)) s

/-! ## The match and mask rows (R115) -/

/-- A word without reserved bits is known by its three other fields. -/
theorem word_eq_iff_fields {v : Word} (hv : rsvOf v = 0) :
    w = v ↔ rsvOf w = 0 ∧ opcOf w = opcOf v ∧ dataOf w = dataOf v ∧ nOf w = nOf v := by
  constructor
  · rintro rfl
    exact ⟨hv, rfl, rfl, rfl⟩
  · rintro ⟨hw, hopc, hdata, hcount⟩
    rw [← assembleWord_fields hw, hopc, hdata, hcount, assembleWord_fields hv]

theorem rsvOf_and (v m : Word) : rsvOf (v &&& m) = rsvOf v &&& rsvOf m := BitVec.extractLsb'_and

theorem opcOf_and (v m : Word) : opcOf (v &&& m) = opcOf v &&& opcOf m := BitVec.extractLsb'_and

theorem dataOf_and (v m : Word) : dataOf (v &&& m) = dataOf v &&& dataOf m := BitVec.extractLsb'_and

theorem nOf_and (v m : Word) : nOf (v &&& m) = nOf v &&& nOf m := BitVec.extractLsb'_and

/-- The rows fix RSV at 0 and OPC, and fix DATA at 0 or leave it free, and N likewise. -/
theorem opcodeTable_masks : ∀ r ∈ opcodeTable,
    (rsvOf r.maskBits = BitVec.allOnes 41 ∧ rsvOf r.matchBits = 0) ∧ opcOf r.maskBits = BitVec.allOnes 8 ∧
    ((dataOf r.maskBits = 0 ∨ dataOf r.maskBits = BitVec.allOnes 8) ∧ dataOf r.matchBits = 0) ∧
    ((nOf r.maskBits = 0 ∨ nOf r.maskBits = BitVec.allOnes 7) ∧ nOf r.matchBits = 0) := by
  decide

/-- A field under a mask that is all zeros or all ones. -/
theorem and_eq_zero_iff_of_mask {n : Nat} {x m : BitVec n} (hn : 0 < n) (hm : m = 0 ∨ m = BitVec.allOnes n) :
    x &&& m = 0 ↔ (m ≠ 0 → x = 0) := by
  obtain rfl | rfl := hm
  · simp
  · simp [hn.ne']

/-- A row selects field by field. -/
theorem selects_iff {r : OpcodeRow} (hr : r ∈ opcodeTable) : r.selects w = true ↔
    rsvOf w = 0 ∧ opcOf w = opcOf r.matchBits ∧ (dataOf r.maskBits ≠ 0 → dataOf w = 0) ∧
      (nOf r.maskBits ≠ 0 → nOf w = 0) ∧ (nOf w).toNat ≤ r.nMax := by
  obtain ⟨⟨hrsv, hrsv0⟩, hopc, ⟨hdata, hdata0⟩, ⟨hcount, hcount0⟩⟩ := opcodeTable_masks r hr
  rw [OpcodeRow.selects, Bool.and_eq_true, beq_iff_eq, decide_eq_true_iff, word_eq_iff_fields hrsv0, rsvOf_and,
    opcOf_and, dataOf_and, nOf_and, hrsv, hopc, hdata0, hcount0, BitVec.and_allOnes, BitVec.and_allOnes,
    and_eq_zero_iff_of_mask (by decide) hdata, and_eq_zero_iff_of_mask (by decide) hcount]
  simp only [and_assoc]

/-- The table has a row for every command. -/
theorem exists_row_of_command (i : Instr) :
    ∃ r ∈ opcodeTable, r.mnemonic = i.mnemonic ∧ opcField i = opcOf r.matchBits ∧
      (dataOf r.maskBits ≠ 0 → dataField i = 0) ∧ (nOf r.maskBits ≠ 0 → countField i = 0) ∧
      (i.wellFormed = true → (countField i).toNat ≤ r.nMax) := by
  cases i <;>
    simp [opcodeTable, Instr.mnemonic, opcField, dataField, countField, Instr.wellFormed, opcOf, dataOf, nOf]

theorem selects_of_decode (h : decode w = some i) :
    ∃ r ∈ opcodeTable, r.mnemonic = i.mnemonic ∧ r.selects w = true := by
  obtain ⟨hrsv, hopc, hdata, hcount, hwf⟩ := decode_eq_some_iff.mp h
  obtain ⟨r, hr, hname, hrow⟩ := exists_row_of_command i
  rw [← hopc, ← hdata, ← hcount] at hrow
  obtain ⟨ho, hd, hn, hmax⟩ := hrow
  exact ⟨r, hr, hname, (selects_iff hr).mpr ⟨hrsv, ho, hd, hn, hmax hwf⟩⟩

theorem decode_of_selects {r : OpcodeRow} (hr : r ∈ opcodeTable) (h : r.selects w = true) :
    ∃ i, decode w = some i ∧ i.mnemonic = r.mnemonic := by
  obtain ⟨hrsv, hopc, hdata, hcount, hmax⟩ := (selects_iff hr).mp h
  simp only [decode_eq_some_iff]
  simp only [opcodeTable, List.mem_cons, List.not_mem_nil, or_false] at hr
  obtain rfl | rfl | rfl | rfl | rfl | rfl | rfl | rfl | rfl | rfl | rfl | rfl := hr
  · exact ⟨.nop, ⟨hrsv, hopc, hdata (by decide), hcount (by decide), rfl⟩, rfl⟩
  · exact ⟨.configure, ⟨hrsv, hopc, hdata (by decide), hcount (by decide), rfl⟩, rfl⟩
  · exact ⟨.buildTable, ⟨hrsv, hopc, hdata (by decide), hcount (by decide), rfl⟩, rfl⟩
  · exact ⟨.start, ⟨hrsv, hopc, hdata (by decide), hcount (by decide), rfl⟩, rfl⟩
  · exact ⟨.resume, ⟨hrsv, hopc, hdata (by decide), hcount (by decide), rfl⟩, rfl⟩
  · exact ⟨.updateSlow (dataOf w), ⟨hrsv, hopc, rfl, hcount (by decide), rfl⟩, rfl⟩
  · exact ⟨.updateFast (dataOf w), ⟨hrsv, hopc, rfl, hcount (by decide), rfl⟩, rfl⟩
  · exact ⟨.finalizeOp, ⟨hrsv, hopc, hdata (by decide), hcount (by decide), rfl⟩, rfl⟩
  · exact ⟨.unfinalizeOp, ⟨hrsv, hopc, hdata (by decide), hcount (by decide), rfl⟩, rfl⟩
  · exact ⟨.reflectBits (nOf w), ⟨hrsv, hopc, hdata (by decide), rfl, decide_eq_true hmax⟩, rfl⟩
  · exact ⟨.reflectBytes (nOf w), ⟨hrsv, hopc, hdata (by decide), rfl, decide_eq_true hmax⟩, rfl⟩
  · exact ⟨.clearErr, ⟨hrsv, hopc, hdata (by decide), hcount (by decide), rfl⟩, rfl⟩

theorem opcodeTable_mnemonic_injective :
    ∀ r ∈ opcodeTable, ∀ q ∈ opcodeTable, r.mnemonic = q.mnemonic → r = q := by
  decide

/-- Settles O5: a word that a row selects decodes to the command of the row's mnemonic, a word that decodes is selected
by its command's row, and the rows' mnemonics differ. -/
theorem opcodeRowsSelectDecodedWords : Obligations.OpcodeRowsSelectDecodedWords := by
  refine fun w => ⟨fun r hr => ⟨decode_of_selects hr, ?_⟩, ⟨fun hnone r hr => ?_, fun hall => ?_⟩,
    fun r hr q hq hsr hsq => ?_⟩
  · rintro ⟨i, hi, hname⟩
    obtain ⟨q, hq, hname', hsel⟩ := selects_of_decode hi
    rwa [opcodeTable_mnemonic_injective r hr q hq (hname.symm.trans hname'.symm)]
  · refine Bool.eq_false_iff.mpr fun hsel => ?_
    obtain ⟨i, hi, -⟩ := decode_of_selects hr hsel
    exact nomatch hnone.symm.trans hi
  · refine Option.eq_none_iff_forall_ne_some.mpr fun i hi => ?_
    obtain ⟨r, hr, -, hsel⟩ := selects_of_decode hi
    exact nomatch (hall r hr).symm.trans hsel
  · obtain ⟨i, hi, hname⟩ := decode_of_selects hr hsr
    obtain ⟨j, hj, hname'⟩ := decode_of_selects hq hsq
    obtain rfl := Option.some.inj (hi.symm.trans hj)
    exact opcodeTable_mnemonic_injective r hr q hq (hname.symm.trans hname')

end Sys2Proof.Proofs
end

section
/-! PROOFS. The reflections and what is made of them: the results of REFLECT_BITS and REFLECT_BYTES (R229, R230),
each reflection its own inverse (R222), and so Unfinalize after Finalize the identity (R226), Finalize's value being in range (R227). -/

namespace Sys2Proof.Proofs

open Sys2Proof Sys2Proof.Machine Sys2Proof.Safety

variable {s : State} {w : Word}

/-! ## Bits and bytes of a reflected value (R220, R221) -/

theorem getLsbD_bitsReflected (v : Word) {n : Nat} (hn : n ≤ 64) (i : Nat) :
    (bitsReflected v n).getLsbD i = (decide (i < n) && v.getLsbD (n - 1 - i)) := by
  rw [bitsReflected, getLsbD_reflectBitsRounds v hn i n le_rfl]
  by_cases hi : i < n
  · rw [decide_eq_true (by omega : n - 1 - i < n), Bool.and_true]
  · simp [hi]

theorem getLsbD_bytesReflected (v : Word) {n : Nat} (hn : n ≤ 8) (j : Nat) {k : Nat} (hk : k < 8) :
    (bytesReflected v n).getLsbD (8 * j + k) = (decide (j < n) && v.getLsbD (8 * (n - 1 - j) + k)) := by
  rw [bytesReflected, getLsbD_reflectBytesRounds v hn j k hk n le_rfl]
  by_cases hj : j < n
  · rw [decide_eq_true (by omega : n - 1 - j < n), Bool.and_true]
  · simp [hj]

theorem extractLsb'_bytesReflected (v : Word) {n : Nat} (hn : n ≤ 8) (j : Nat) :
    (bytesReflected v n).extractLsb' (8 * j) 8 = if j < n then v.extractLsb' (8 * (n - 1 - j)) 8 else 0 := by
  refine extractLsb'_eq_field fun k hk => ?_
  rw [getLsbD_bytesReflected v hn j hk]
  by_cases hj : j < n <;> simp [hj, hk]

/-! ## REFLECT_BITS and REFLECT_BYTES (R229, R230) -/

theorem assembleWord_of_no_data (o : Byte) (n : BitVec 7) :
    assembleWord o 0 n = o.setWidth 64 ||| (n.setWidth 64 <<< 16) := by
  simp [assembleWord]

theorem decode_eq_reflectBits_iff {n : BitVec 7} :
    decode w = some (.reflectBits n) ↔ n.toNat ≤ 64 ∧ w = 0x09 ||| (n.setWidth 64 <<< 16) := by
  rw [decode_eq_some_iff, fieldsOf_iff, encode, assembleWord_of_no_data, and_comm, eq_comm (b := w)]
  simp [Instr.wellFormed]

theorem decode_eq_reflectBytes_iff {n : BitVec 7} :
    decode w = some (.reflectBytes n) ↔ n.toNat ≤ 8 ∧ w = 0x0A ||| (n.setWidth 64 <<< 16) := by
  rw [decode_eq_some_iff, fieldsOf_iff, encode, assembleWord_of_no_data, and_comm, eq_comm (b := w)]
  simp [Instr.wellFormed]

/-- The illegal words of an opcode whose row has N up to a limit and no DATA (R117). -/
theorem illegalUnless_of_count_row {opc limit : Nat}
    (hrow : ∀ w, (opcOf w).toNat = opc →
      (IllegalFields w ↔ rsvOf w ≠ 0 ∨ dataOf w ≠ 0 ∨ limit < (nOf w).toNat)) :
    IllegalUnless opc fun w =>
      w.extractLsb' 8 8 = 0 ∧ (w.extractLsb' 16 7).toNat ≤ limit ∧ w.extractLsb' 23 41 = 0 := by
  refine illegalUnless_of_illegalFields fun w hopc hlegal => (hrow w hopc).mpr ?_
  change ¬ (dataOf w = 0 ∧ (nOf w).toNat ≤ limit ∧ rsvOf w = 0) at hlegal
  rw [not_and_or, not_and_or, Nat.not_le] at hlegal
  tauto

/-- Settles O40: the command's word, its outcomes and the bits of the reflected value. -/
theorem reflectBitsResult : Obligations.ReflectBitsResult := by
  refine ⟨fun w n => decode_eq_reflectBits_iff,
    illegalUnless_of_count_row fun w hopc => by simp [illegalFields_iff, hopc],
    fun s n hn => ⟨_, exec_of_execCase (.bits n hn), rfl, getLsbD_bitsReflected s.operand hn⟩,
    fun s n hn => exec_of_execCase (.illegalBits n hn), fun s hs => ?_⟩
  refine ⟨_, exec_of_execCase (.bits 32 (by decide)), ?_⟩
  change bitsReflected s.operand 32 = _
  rw [hs]
  decide

/-- Settles O41: the command's word, its outcomes and the bytes of the reflected value. -/
theorem reflectBytesResult : Obligations.ReflectBytesResult := by
  refine ⟨fun w n => decode_eq_reflectBytes_iff,
    illegalUnless_of_count_row fun w hopc => by simp [illegalFields_iff, hopc],
    fun s n hn => ⟨_, exec_of_execCase (.bytes n hn), rfl, extractLsb'_bytesReflected s.operand hn⟩,
    fun s n hn => exec_of_execCase (.illegalBytes n hn), fun s hs => ?_, fun s hs => ?_⟩
  · refine ⟨_, exec_of_execCase (.bytes 4 (by decide)), ?_⟩
    change bytesReflected s.operand 4 = _
    rw [hs]
    decide
  · refine ⟨_, exec_of_execCase (.bytes 2 (by decide)), ?_⟩
    change bytesReflected s.operand 2 = _
    rw [hs]
    decide

/-! ## Each reflection is its own inverse (R222) -/

theorem bitsReflected_bitsReflected (x : Word) {n : Nat} (hn : n ≤ 64) :
    bitsReflected (bitsReflected x n) n = x &&& lowMask n := by
  apply BitVec.eq_of_getLsbD_eq
  intro i _
  rw [getLsbD_bitsReflected _ hn, getLsbD_bitsReflected _ hn, BitVec.getLsbD_and, getLsbD_lowMask hn, Bool.and_comm]
  by_cases hi : i < n
  · simp [hi, (by omega : n - 1 - i < n), (by omega : n - 1 - (n - 1 - i) = i)]
  · simp [hi]

theorem bytesReflected_bytesReflected (x : Word) {n : Nat} (hn : n ≤ 8) :
    bytesReflected (bytesReflected x n) n = x &&& lowMask (8 * n) := by
  apply BitVec.eq_of_getLsbD_eq
  intro i _
  have hbyte (y : Word) := getLsbD_bytesReflected y hn (i / 8) (Nat.mod_lt i (by decide : 0 < 8))
  have hback := getLsbD_bytesReflected x hn (n - 1 - i / 8) (Nat.mod_lt i (by decide : 0 < 8))
  rw [Nat.div_add_mod] at hbyte
  rw [hbyte, hback, BitVec.getLsbD_and, getLsbD_lowMask (by omega), Bool.and_comm]
  by_cases hi : i / 8 < n
  · have hi' : i < 8 * n := by omega
    have hj : 8 * (n - 1 - (n - 1 - i / 8)) + i % 8 = i := by omega
    simp [hi, hi', hj, (by omega : n - 1 - i / 8 < n)]
  · simp [hi, (by omega : 8 * n ≤ i)]

theorem and_lowMask_of_le {n : Nat} (hn : n ≤ 64) {x : Word} (hx : x ≤ lowMask n) : x &&& lowMask n = x := by
  apply BitVec.eq_of_getLsbD_eq
  intro i _
  rw [BitVec.getLsbD_and, getLsbD_lowMask hn]
  by_cases hi : i < n
  · simp [hi]
  · simp [(le_lowMask_iff hn x).mp hx i (Nat.not_lt.mp hi)]

/-! ## Finalize and Unfinalize (R226, R227) -/

theorem ready_aXorout_le (h : Ready s) : s.aXorout ≤ s.mask :=
  have ⟨_, _, _, _, hxorout, _⟩ := h.1.legal h.2
  hxorout

theorem ready_aInit_le (h : Ready s) : s.aInit ≤ s.mask :=
  have ⟨_, _, _, hinit, _⟩ := h.1.legal h.2
  hinit

/-- With REFOUT_BYTES the width is NBYTES whole bytes (R35, R36). -/
theorem ready_nbytes (h : Ready s) (hb : s.aRefoutBytes = true) : 8 * s.nbytes.toNat = s.aBits.toNat := by
  obtain ⟨-, -, -, -, -, hmod⟩ := h.1.legal h.2
  obtain ⟨-, -, hnb⟩ := h.1.derived.1 h.2
  have := hmod hb
  omega

theorem bitsReflected_bitsReflected_of_le (h : Ready s) {x : Word} (hx : x ≤ s.mask) :
    bitsReflected (bitsReflected x s.aBits.toNat) s.aBits.toNat = x := by
  have hn : s.aBits.toNat ≤ 64 := s.aBits.isLt.le
  rw [ready_mask h] at hx
  rw [bitsReflected_bitsReflected x hn, and_lowMask_of_le hn hx]

theorem bytesReflected_bytesReflected_of_le (h : Ready s) (hb : s.aRefoutBytes = true) {x : Word}
    (hx : x ≤ s.mask) : bytesReflected (bytesReflected x s.nbytes.toNat) s.nbytes.toNat = x := by
  have hn : s.aBits.toNat ≤ 64 := s.aBits.isLt.le
  have hnb := ready_nbytes h hb
  rw [ready_mask h] at hx
  rw [bytesReflected_bytesReflected x (by omega), hnb, and_lowMask_of_le hn hx]

/-- The value Finalize has before the byte reflection. -/
theorem finalized_xor_le_mask (h : Ready s) {x : Word} (hx : x ≤ s.mask) :
    (if s.aRefoutBits then bitsReflected x s.aBits.toNat else x) ^^^ s.aXorout ≤ s.mask := by
  refine xor_le_mask h ?_ (ready_aXorout_le h)
  split
  · exact bitsReflected_le_mask h x
  · exact hx

theorem finalized_le_mask (h : Ready s) {x : Word} (hx : x ≤ s.mask) : finalized s x ≤ s.mask := by
  simp only [finalized]
  split
  · exact bytesReflected_le_mask h ‹_› _
  · exact finalized_xor_le_mask h hx

/-- Unfinalize undoes the byte reflection, the exclusive-or and the bit reflection, in this order (R226). -/
theorem unfinalized_finalized (h : Ready s) {x : Word} (hx : x ≤ s.mask) : unfinalized s (finalized s x) = x := by
  have hxor := finalized_xor_le_mask h hx
  have hbytes : (if s.aRefoutBytes then bytesReflected (finalized s x) s.nbytes.toNat else finalized s x) =
      (if s.aRefoutBits then bitsReflected x s.aBits.toNat else x) ^^^ s.aXorout := by
    simp only [finalized]
    by_cases hb : s.aRefoutBytes = true
    · simp only [hb, if_true]
      exact bytesReflected_bytesReflected_of_le h hb hxor
    · simp only [hb]
      rfl
  simp only [unfinalized]
  rw [hbytes, BitVec.xor_assoc, BitVec.xor_self, BitVec.xor_zero]
  by_cases hr : s.aRefoutBits = true
  · simp only [hr, if_true]
    exact bitsReflected_bitsReflected_of_le h hx
  · simp [hr]

end Sys2Proof.Proofs
end

section
/-! PROOFS. The table-driven step is the bitwise step (R195): the division is linear, and on the bits below the top byte
its eight rounds are a shift. -/

namespace Sys2Proof.Proofs

open Sys2Proof Sys2Proof.Machine Sys2Proof.Safety

variable {s : State}

/-! ## The accumulator's top byte and the bits below it -/

/-- `k` rounds on a value whose `k` top bits are clear are a shift by `k` (R195 step 3). -/
theorem divRounds_of_top_clear (h : Ready s) : ∀ (k : Nat) {x : Word}, k ≤ s.aBits.toNat →
    (∀ i, s.aBits.toNat - k ≤ i → x.getLsbD i = false) → divRounds s k x = x <<< k
  | 0, x, _, _ => by simp [divRounds]
  | k + 1, x, hk, hx => by
    have hn := s.aBits.isLt
    have hround : divRound s x = x <<< 1 := by
      rw [divRound_of_top_clear (by omega) (ready_topbit h) (hx _ (by omega)), ready_mask h]
      refine and_lowMask_of_le hn.le ((le_lowMask_iff hn.le _).mpr fun i hi => ?_)
      simp [hx (i - 1) (by omega)]
    rw [divRounds, hround, divRounds_of_top_clear h k (by omega), Nat.add_comm k 1,
      BitVec.shiftLeft_add]
    intro i hi
    simp [hx (i - 1) (by omega)]

theorem getLsbD_lookupIndex (s : State) (crc : Word) (d : Byte) (k : Nat) : (lookupIndex s crc d).getLsbD k =
    (decide (k < 8) && (crc.getLsbD (topByteShift s + k) ^^ (inputByte s d).getLsbD k)) := by
  have hbyte : (0xFF : Word).getLsbD k = decide (k < 8) := getLsbD_lowMask (n := 8) (by decide) k
  simp only [lookupIndex, BitVec.getLsbD_setWidth, BitVec.getLsbD_and, BitVec.getLsbD_xor, BitVec.getLsbD_ushiftRight,
    hbyte]
  cases decide (k < 8) <;> simp

/-- The dividend of the bitwise step is the table index at the top and the lower bits of the accumulator below it
(R195 step 2). -/
theorem xor_inputByte_eq_lookupIndex_xor (h : Ready s) {crc : Word} (hc : crc ≤ s.mask) (d : Byte) :
    crc ^^^ (inputByte s d <<< topByteShift s) =
      ((lookupIndex s crc d).setWidth 64 <<< topByteShift s) ^^^ (crc &&& lowMask (topByteShift s)) := by
  obtain ⟨hlo, hhi⟩ := ready_bits h
  have hshift : topByteShift s + 8 = s.aBits.toNat := by unfold topByteShift; omega
  apply BitVec.eq_of_getLsbD_eq
  intro i hi
  simp only [BitVec.getLsbD_xor, BitVec.getLsbD_and, BitVec.getLsbD_shiftLeft, BitVec.getLsbD_setWidth,
    getLsbD_lowMask (by omega : topByteShift s ≤ 64), getLsbD_lookupIndex, hi, decide_true, Bool.true_and]
  by_cases hlow : i < topByteShift s
  · simp [hlow]
  · have hpos : topByteShift s + (i - topByteShift s) = i := by omega
    have h64 : i - topByteShift s < 64 := by omega
    by_cases htop : i - topByteShift s < 8
    · simp [hlow, hpos, h64, htop]
    · have hcrc := (ready_le_mask_iff h crc).mp hc i (by omega)
      simp [-BitVec.getLsbD_eq_getElem, hlow, hpos, htop, hcrc,
        getLsbD_inputByte_of_le s d (Nat.not_lt.mp htop)]

/-- The eight rounds shift the bits below the top byte out from under the table index (R195 step 3). -/
theorem div8_low_bits (h : Ready s) (crc : Word) :
    div8 s (crc &&& lowMask (topByteShift s)) = crc <<< 8 &&& s.mask := by
  obtain ⟨hlo, hhi⟩ := ready_bits h
  have hshift : topByteShift s = s.aBits.toNat - 8 := rfl
  have hlow := getLsbD_lowMask (by omega : topByteShift s ≤ 64)
  rw [div8, divRounds_of_top_clear h 8 hlo fun i hi => by simp [hlow, (by omega : topByteShift s ≤ i)], ready_mask h]
  apply BitVec.eq_of_getLsbD_eq
  intro i hi
  simp only [BitVec.getLsbD_and, BitVec.getLsbD_shiftLeft, hlow, getLsbD_lowMask (by omega : s.aBits.toNat ≤ 64)]
  by_cases h8 : i < 8
  · simp [h8]
  · have hpos : i - 8 < topByteShift s ↔ i < s.aBits.toNat := by omega
    simp only [hpos, Bool.and_assoc]

/-- With the table of the configuration, one lookup does what eight rounds do (R195). -/
theorem fastStep_eq_slowStep (h : Ready s) (ht : s.tableValid = true) {crc : Word} (hc : crc ≤ s.mask) (d : Byte) :
    fastStep s crc d = slowStep s crc d := by
  obtain ⟨-, hentry⟩ := h.1.table ht
  have hxor := divRounds_xor (k := 8) (m := s.aBits.toNat - 1) (by have := s.aBits.isLt; omega) (ready_topbit h)
  calc fastStep s crc d
      = div8 s (crc &&& lowMask (topByteShift s)) ^^^ tableEntry s (lookupIndex s crc d) := by
        rw [fastStep, hentry, div8_low_bits h]
    _ = div8 s (crc ^^^ (inputByte s d <<< topByteShift s)) := by
        rw [xor_inputByte_eq_lookupIndex_xor h hc, div8, div8, hxor, BitVec.xor_comm]
        rfl

/-- So the two paths leave the same accumulator after every message. -/
theorem foldl_fastStep_eq_accAfter (h : Ready s) (ht : s.tableValid = true) :
    ∀ (m : List Byte) {crc : Word}, crc ≤ s.mask → m.foldl (fastStep s) crc = accAfter s crc m
  | [], _, _ => rfl
  | d :: m, crc, hc => by
    rw [List.foldl_cons, fastStep_eq_slowStep h ht hc, foldl_fastStep_eq_accAfter h ht m (slowStep_le_mask h crc d)]
    rfl

theorem accAfter_le_mask (h : Ready s) : ∀ (m : List Byte) {crc : Word}, crc ≤ s.mask → accAfter s crc m ≤ s.mask
  | [], _, hc => hc
  | d :: m, crc, _ => accAfter_le_mask h m (slowStep_le_mask h crc d)

theorem accAfter_append (s : State) (crc : Word) (m m' : List Byte) :
    accAfter s crc (m ++ m') = accAfter s (accAfter s crc m) m' :=
  List.foldl_append

end Sys2Proof.Proofs
end

section
/-! PROOFS. The host's pseudo-instructions as runs: a message fed byte by byte (R125), COMPUTE_SLOW and COMPUTE_FAST
(R127, R128, R176), RESUME_FROM (R124) and SETCFG (R123). -/

namespace Sys2Proof.Proofs

open Sys2Proof Sys2Proof.Machine Sys2Proof.Safety

variable {s t : State}

/-! ## One access of a host program -/

theorem step_of_pending_access {a : HostAccess} {rest : List HostAccess} (hp : s.pending = a :: rest)
    (h : hostStep a (s.withPending rest) = .next t) : step s = .next t :=
  (step_of_pending hp).trans h

/-- A pending command line is the step of that command (R43, R122). -/
theorem step_of_pending_command {i : Instr} {rest : List HostAccess} (hp : s.pending = command i :: rest)
    (hwf : i.wellFormed = true) (he : ExecCase (s.withPending rest) i t) : step s = .next t :=
  (step_of_cmd_write hp).trans
    ((executeWord_of_decode (decodeOfEncodeIsSame i hwf) _).trans (exec_of_execCase he))

theorem runs_one (h : step s = .next t) : runs 1 s t := runs_succ h (runs_zero t)

/-- A pending read of RESULT returns Finalize(ACC) to the host (R228). -/
theorem step_of_pending_rd_result {rest : List HostAccess} (hp : s.pending = rd .result :: rest)
    (hc : s.cfgValid = true) : step s = .next ((s.withPending rest).withRead (finalized s s.acc)) := by
  rw [step_of_pending hp]
  exact congrArg (fun v => Host.Outcome.next ((s.withPending rest).withRead v)) (if_pos hc)

/-! ## Feeding a message (R125) -/

/-- The state with other accesses to come, ACC and LAST_ERR: all that a fed message changes. -/
def progressed (s : State) (p : List HostAccess) (c : Word) (e : BitVec 4) : State :=
  { s with pending := p, acc := c, lastErr := e }

/-- A list of commands that each fold a value into ACC folds the list. Where it is empty, LAST_ERR is as it was. -/
theorem runs_of_fold {α : Type} {cmd : α → Instr} {f : Word → α → Word} (hwf : ∀ b, (cmd b).wellFormed = true)
    (hexec : ∀ p c e b, ExecCase (progressed s p c e) (cmd b) (progressed s p (f c b) 0)) (rest : List HostAccess) :
    ∀ (m : List α) (c : Word) (e : BitVec 4), (m = [] → e = 0) →
      runs m.length (progressed s (m.map (fun b => command (cmd b)) ++ rest) c e) (progressed s rest (m.foldl f c) 0)
  | [], _, _, he => he rfl ▸ runs_zero _
  | b :: m, c, e, _ =>
    runs_succ (step_of_pending_command rfl (hwf b) (hexec _ c e b))
      (runs_of_fold hwf hexec rest m (f c b) 0 fun _ => rfl)

theorem execCase_updateSlow_progressed (hc : s.cfgValid = true) (p : List HostAccess) (c : Word) (e : BitVec 4)
    (d : Byte) : ExecCase (progressed s p c e) (.updateSlow d) (progressed s p (slowStep s c d) 0) :=
  slowStep_of_sameActive (s := s) (t := progressed s p c e) (sameActive_refl s) c d ▸ .slow d hc

theorem execCase_updateFast_progressed (hc : s.cfgValid = true) (ht : s.tableValid = true) (p : List HostAccess)
    (c : Word) (e : BitVec 4) (d : Byte) :
    ExecCase (progressed s p c e) (.updateFast d) (progressed s p (fastStep s c d) 0) :=
  fastStep_of_sameActive (s := s) (t := progressed s p c e) (sameActive_refl s) rfl c d ▸ .fast d hc ht

/-- Settles O27: each UPDATE_SLOW folds one byte. -/
theorem feedSlowFoldsMessage : Obligations.FeedSlowFoldsMessage := by
  intro m s rest hc hm hp
  have hrun := runs_of_fold (fun _ => rfl) (execCase_updateSlow_progressed hc) rest m s.acc s.lastErr (absurd · hm)
  change s.pending = m.map _ ++ rest at hp
  rw [← hp] at hrun
  exact hrun

/-! ## Computing the check value of a message (R127, R128, R176) -/

/-- START, the message fed by a command that folds its bytes into ACC, and the read of RESULT. -/
theorem runs_of_start_fold_read {α : Type} {cmd : α → Instr} {f : Word → α → Word}
    (hwf : ∀ b, (cmd b).wellFormed = true) (hc : s.cfgValid = true)
    (hexec : ∀ p c e b, ExecCase (progressed s p c e) (cmd b) (progressed s p (f c b) 0)) {m : List α}
    {rest : List HostAccess}
    (hp : s.pending = command .start :: (m.map (fun b => command (cmd b)) ++ [rd .result]) ++ rest) :
    runs (m.length + 2) s ((progressed s rest (m.foldl f s.aInit) 0).withRead (finalized s (m.foldl f s.aInit))) := by
  rw [List.cons_append, List.append_assoc] at hp
  have hstart := step_of_pending_command hp rfl (.started hc)
  have hfeed := runs_of_fold hwf hexec ([rd .result] ++ rest) m s.aInit 0 fun _ => rfl
  have hread := step_of_pending_rd_result (s := progressed s ([rd .result] ++ rest) (m.foldl f s.aInit) 0) rfl hc
  exact runs_succ hstart (runs_add hfeed (runs_one hread))

/-- Settles O28: UPDATE_SLOW is such a command. -/
theorem computeSlowReturnsFinalizedRemainder : Obligations.ComputeSlowReturnsFinalizedRemainder :=
  fun _ _ _ hc hp => runs_of_start_fold_read (fun _ => rfl) hc (execCase_updateSlow_progressed hc) hp

theorem accAfter_of_sameActive (ha : SameActive s t) (c : Word) (m : List Byte) : accAfter t c m = accAfter s c m :=
  congrArg (fun f => m.foldl f c) (funext fun x => funext fun d => slowStep_of_sameActive ha x d)

theorem computedSlow_of_sameActive (ha : SameActive s t) (m : List Byte) : computedSlow t m = computedSlow s m := by
  have hinit : t.aInit = s.aInit := by obtain ⟨-, -, -, -, -, -, hinit, -⟩ := ha; exact hinit
  rw [computedSlow, computedSlow, finalized_of_sameActive ha, accAfter_of_sameActive ha, hinit]

/-- The part of COMPUTE_FAST after BUILD_TABLE: with the configuration's table, UPDATE_FAST folds as UPDATE_SLOW
does. -/
theorem runs_of_start_feedFast_read (h : Ready s) (ht : s.tableValid = true) {m : List Byte} {rest : List HostAccess}
    (hp : s.pending = command .start :: (feedFast m ++ [rd .result]) ++ rest) :
    runs (m.length + 2) s ((progressed s rest (accAfter s s.aInit m) 0).withRead (computedSlow s m)) := by
  have hrun := runs_of_start_fold_read (fun _ => rfl) h.2 (execCase_updateFast_progressed h.2 ht) hp
  rwa [foldl_fastStep_eq_accAfter h ht m (ready_aInit_le h)] at hrun

/-- Settles O37: BUILD_TABLE leaves a ready state with the configuration's table and the same active configuration. -/
theorem computeFastReturnsSlowResult : Obligations.ComputeFastReturnsSlowResult := by
  intro m s rest h hp
  have hbuilt := ExecCase.built (s := s.withPending (command .start :: (feedFast m ++ [rd .result]) ++ rest)) h.2
  generalize hu : State.succeeded _ = u at hbuilt
  have hactive : SameActive s u := hu ▸ sameActive_refl s
  have hready : Ready u := ⟨stateInv_of_execCase (stateInv_withPending h.1 _) hbuilt, hactive.1.trans h.2⟩
  have htable : u.tableValid = true := by simp [← hu]
  have hinit : u.aInit = s.aInit := by simp [← hu]
  have hreads : u.reads = s.reads := by simp [← hu]
  have hauxout : u.auxout = s.auxout := by simp [← hu]
  have hsticky : u.errSticky = s.errSticky := by simp [← hu]
  have hstaging : SameStaging s u := by simp [SameStaging, ← hu]
  have hrun := runs_of_start_feedFast_read hready htable (pending_of_execCase hbuilt)
  rw [accAfter_of_sameActive hactive, computedSlow_of_sameActive hactive, hinit] at hrun
  exact ⟨_, runs_succ (step_of_pending_command hp rfl hbuilt) hrun, congrArg (· ++ _) hreads, rfl, rfl, htable, hactive,
    hstaging, hauxout, hsticky, rfl⟩

/-! ## Resuming a message (R124, R176, R287) -/

/-- Settles O29: RESUME loads Unfinalize of the shown value, which is the accumulator it was shown of. -/
theorem resumedMessageContinues : Obligations.ResumedMessageContinues := by
  intro m m' s rest h hp
  have hacc := accAfter_le_mask h m (ready_aInit_le h)
  generalize hv : finalized s (accAfter s s.aInit m) = v at hp ⊢
  have hactive : SameActive s (s.withOperand v) := sameActive_refl s
  have hvle : v ≤ s.mask := hv ▸ finalized_le_mask h hacc
  have hloaded : unfinalized (s.withOperand v) v = accAfter s s.aInit m := by
    rw [unfinalized_of_sameActive hactive, ← hv, unfinalized_finalized h hacc]
  have hwrite : step s = .next ((s.withPending (command .resume :: (feedSlow m' ++ rest))).withOperand v) :=
    step_of_pending hp
  have hresume : step ((s.withPending (command .resume :: (feedSlow m' ++ rest))).withOperand v) =
      .next (progressed (s.withOperand v) (feedSlow m' ++ rest) (accAfter s s.aInit m) 0) :=
    hloaded ▸ step_of_pending_command rfl rfl (.resumed h.2 hvle)
  have hfeed := runs_of_fold (fun _ => rfl) (execCase_updateSlow_progressed (s := s.withOperand v) h.2) rest m'
    (accAfter s s.aInit m) 0 fun _ => rfl
  change runs _ _ (progressed _ _ (accAfter _ _ _) _) at hfeed
  rw [accAfter_of_sameActive hactive, ← accAfter_append] at hfeed
  exact runs_succ hwrite (runs_succ hresume hfeed)

/-! ## SETCFG (R123) -/

/-- The four writes of SETCFG to the staging registers (R32). -/
theorem runs_of_staging_writes {v poly init xorout : Word} {rest : List HostAccess}
    (hp : s.pending = wr .cfg v :: wr .poly poly :: wr .init init :: wr .xorout xorout :: rest) :
    runs 4 s (withStaging (cfgStored v) poly init xorout (s.withPending rest)) :=
  ⟨_, step_of_pending_access hp rfl, _, step_of_pending_access rfl rfl, _, step_of_pending_access rfl rfl, _,
    step_of_pending_access rfl rfl, rfl⟩

theorem le_maskOf_of_lt {bits : BitVec 6} {x : Word} (hx : x.toNat < 2 ^ bits.toNat) : x ≤ maskOf bits := by
  rw [BitVec.le_def, maskOf, lowMask_toNat bits.isLt.le]
  omega

/-- Settles O60: the CFG word is A_CFG's of the wanted configuration, so its fields are those; they are legal, and
CONFIGURE latches them. -/
theorem setcfgConfiguresTheBlock : Obligations.SetcfgConfiguresTheBlock := by
  intro s rest bits poly init xorout ri rb ry hlo hpoly hinit hxorout hbytes hp
  let v := activeCfgWord { s with aBits := bits, aRefin := ri, aRefoutBits := rb, aRefoutBytes := ry }
  obtain ⟨hbits, hri, hrb, hry, -⟩ :=
    activeConfigurationReads { s with aBits := bits, aRefin := ri, aRefoutBits := rb, aRefoutBytes := ry }
  have hbits : cfgBits (cfgStored v) = bits := (cfgBits_cfgStored v).trans hbits
  have hri : cfgRefin (cfgStored v) = ri := (getLsbD_cfgStored_of_kept v rfl).trans hri
  have hrb : cfgRefoutBits (cfgStored v) = rb := (getLsbD_cfgStored_of_kept v rfl).trans hrb
  have hry : cfgRefoutBytes (cfgStored v) = ry := (getLsbD_cfgStored_of_kept v rfl).trans hry
  have hlegal : stagingLegal (withStaging (cfgStored v) poly init xorout (s.withPending rest)) = true := by
    refine stagingLegal_iff.mpr ?_
    change 8 ≤ (cfgBits (cfgStored v)).toNat ∧ poly ≤ maskOf (cfgBits (cfgStored v)) ∧
      init ≤ maskOf (cfgBits (cfgStored v)) ∧ xorout ≤ maskOf (cfgBits (cfgStored v)) ∧
      (cfgRefoutBytes (cfgStored v) = true → (cfgBits (cfgStored v)).toNat % 8 = 0)
    rw [hbits, hry]
    exact ⟨hlo, le_maskOf_of_lt hpoly, le_maskOf_of_lt hinit, le_maskOf_of_lt hxorout, hbytes⟩
  have hstaged := runs_of_staging_writes (v := v) (rest := command .configure :: rest) hp
  exact ⟨_, runs_add hstaged (runs_one (step_of_pending_command rfl rfl (.latched hlegal))),
    rfl, hbits, rfl, rfl, rfl, hri, hrb, hry, rfl, rfl, rfl, rfl, rfl, rfl⟩

end Sys2Proof.Proofs
end

section
/-! PROOFS. The control commands (spec/40_control.md): their words (R115, R117), what NOP, CONFIGURE, START, RESUME and
CLEAR_ERR do (R140 to R146), and what the commands that write ACC, the table or the error record leave unchanged. -/

namespace Sys2Proof.Proofs

open Sys2Proof Sys2Proof.Machine Sys2Proof.Safety

variable {s t : State} {i : Instr} {w : Word}

/-! ## The word of a command (R115, R116, R117) -/

theorem decode_eq_some_iff_eq_encode (hwf : i.wellFormed = true) : decode w = some i ↔ w = encode i := by
  rw [decode_eq_some_iff, fieldsOf_iff, and_iff_left hwf, eq_comm]

/-- An opcode with one command has one legal word. -/
theorem illegalUnless_encode {opc : Nat} (hsole : ∀ j, (opcField j).toNat = opc → j = i) :
    IllegalUnless opc (· = encode i) := by
  intro w s hopc hne
  cases hd : decode w with
  | none => exact executeWord_of_illegal hd s
  | some j =>
    have hfields := decode_eq_some_iff.mp hd
    have hj : (opcField j).toNat = opc := hfields.opc ▸ hopc
    exact absurd (hsole j hj ▸ (fieldsOf_iff.mp hfields).1.symm) hne

/-! ## STATUS after a command that succeeds (R41, R140, R146) -/

theorem statusWord_and_lowMask_three (s : State) : statusWord s &&& lowMask 3 = statusWord s.succeeded := by
  apply BitVec.eq_of_getLsbD_eq
  intro k _
  rw [BitVec.getLsbD_and, getLsbD_lowMask (by decide), getLsbD_statusWord, getLsbD_statusWord]
  by_cases hk : k < 3
  · have hlow : ¬ 8 ≤ k := by omega
    simp [hk, hlow]
  · have hhigh : k ≠ 0 ∧ k ≠ 1 ∧ k ≠ 2 := by omega
    simp [hk, hhigh]

theorem statusWord_and_lowMask_two (s : State) : statusWord s &&& lowMask 2 = statusWord s.errorCleared.succeeded := by
  apply BitVec.eq_of_getLsbD_eq
  intro k _
  rw [BitVec.getLsbD_and, getLsbD_lowMask (by decide), getLsbD_statusWord, getLsbD_statusWord]
  by_cases hk : k < 2
  · have hlow : k ≠ 2 ∧ ¬ 8 ≤ k := by omega
    simp [hk, hlow]
  · have hhigh : k ≠ 0 ∧ k ≠ 1 := by omega
    simp [hk, hhigh]

/-! ## NOP and CLEAR_ERR (R140, R146) -/

/-- Settles O17: NOP succeeds, which leaves of STATUS the three flags. -/
theorem nopResult : Obligations.NopResult := by
  refine ⟨fun _ => decode_eq_some_iff_eq_encode (i := .nop) rfl,
    illegalUnless_encode (i := .nop) fun j hj => by cases j <;> simp [opcField] at hj ⊢, fun _ => rfl,
    fun s hs => ⟨s.succeeded, rfl, ?_⟩⟩
  change statusWord s = _ at hs
  change statusWord _ = _
  rw [← statusWord_and_lowMask_three, hs]
  decide

/-- Settles O22: CLEAR_ERR succeeds with ERR_STICKY cleared, which leaves of STATUS the two other flags. -/
theorem clearErrResult : Obligations.ClearErrResult := by
  have hillegal : IllegalUnless 0x0B (· = 0x000000000000000B) :=
    illegalUnless_encode (i := .clearErr) fun j hj => by cases j <;> simp [opcField] at hj ⊢
  refine ⟨fun _ => decode_eq_some_iff_eq_encode (i := .clearErr) rfl, hillegal, fun _ => rfl,
    fun s => hillegal 0x10B s (by decide) (by decide), fun s hs => ⟨s.errorCleared.succeeded, rfl, ?_⟩⟩
  change statusWord s = _ at hs
  change statusWord _ = _
  rw [← statusWord_and_lowMask_two, hs]
  decide

/-! ## CONFIGURE (R141, R142, R143) -/

theorem toNat_cfgBits (c : BitVec 11) : (cfgBits c).toNat = c.toNat % 64 := by
  simp [cfgBits]

theorem le_maskOf_iff {bits : BitVec 6} {x : Word} : x ≤ maskOf bits ↔ x.toNat ≤ 2 ^ bits.toNat - 1 := by
  rw [BitVec.le_def, maskOf, lowMask_toNat bits.isLt.le]

/-- CONFIGURE's check is R142's, in numbers. -/
theorem stagingLegal_iff_legalInNumbers : stagingLegal s = true ↔ StagingLegal s := by
  simp only [stagingLegal_iff, le_maskOf_iff, toNat_cfgBits]
  rfl

/-- Settles O18: the latched state holds the staging values, and the derived registers agree with its width. -/
theorem configureLatchesLegalStaging : Obligations.ConfigureLatchesLegalStaging := by
  intro s h
  obtain ⟨hmask, htop, hnb⟩ := (derivedAgree_configured s).1 rfl
  rw [State.configured_aBits, toNat_cfgBits] at hmask htop hnb
  exact ⟨_, exec_of_execCase (.latched (stagingLegal_iff_legalInNumbers.mpr h)), toNat_cfgBits s.stgCfg, rfl, rfl, rfl,
    rfl, rfl, rfl, hmask, htop, hnb, rfl, rfl, rfl, rfl, rfl, rfl, ⟨rfl, rfl, rfl, rfl, rfl⟩, fun _ => rfl,
    ⟨rfl, rfl, rfl⟩⟩

/-- Settles O19: the deconfigured state has no configuration, so RESULT reads 0 and the commands that need one fail. -/
theorem configureRefusesIllegalStaging : Obligations.ConfigureRefusesIllegalStaging := by
  intro s h
  have hl : stagingLegal s = false := Bool.eq_false_iff.mpr (mt stagingLegal_iff_legalInNumbers.mp h)
  exact ⟨_, exec_of_execCase (.deconfigured hl), rfl, rfl, fun _ hi => exec_of_execCase (.notConfigured hi rfl)⟩

/-! ## START (R144) -/

/-- RESULT after a command that loads ACC is Finalize of the loaded value (R228). -/
theorem regRead_result_withAcc (hc : s.cfgValid = true) (v : Word) :
    regRead 0x011 (s.withAcc v).succeeded = finalized s v :=
  (if_pos hc).trans (finalized_of_sameActive (sameActive_refl s) v)

/-- The state CONFIGURE leaves of these staging values, everything else as after reset. -/
def configuredWith (c : BitVec 11) (p n x : Word) : State := (withStaging c p n x State.reset).configured

theorem sameActive_of_activeIs {c : BitVec 11} {p n x : Word} (h : ActiveIs s c p n x) :
    SameActive (configuredWith c p n x) s := h

/-- Settles O20: START loads INIT, which is what a CONFIGURE that succeeds has loaded. -/
theorem startResult : Obligations.StartResult := by
  refine ⟨fun _ => decode_eq_some_iff_eq_encode (i := .start) rfl,
    illegalUnless_encode (i := .start) fun j hj => by cases j <;> simp [opcField] at hj ⊢,
    fun s hc => ⟨_, exec_of_execCase (.started hc), rfl, regRead_result_withAcc hc s.aInit⟩,
    fun s hc => exec_of_execCase (.notConfigured (.inr (.inl rfl)) hc), fun s t h hc => ?_, fun s h _ => ?_⟩
  · obtain ⟨-, rfl⟩ | ⟨-, rfl⟩ := configure_cases (exec_cases h)
    · exact exec_of_execCase (.started hc)
    · exact absurd hc (by simp)
  · have hactive := sameActive_of_activeIs h
    obtain ⟨hc, -, -, -, -, -, hinit, -⟩ := h
    refine ⟨_, exec_of_execCase (.started hc), hinit, (regRead_result_withAcc hc s.aInit).trans ?_⟩
    rw [finalized_of_sameActive hactive, hinit]
    decide

/-! ## RESUME (R145) -/

/-- The value Unfinalize has before the exclusive-or. -/
theorem unfinalized_bytes_le_mask (h : Ready s) {x : Word} (hx : x ≤ s.mask) :
    (if s.aRefoutBytes then bytesReflected x s.nbytes.toNat else x) ≤ s.mask := by
  split
  · exact bytesReflected_le_mask h ‹_› x
  · exact hx

/-- Finalize undoes the bit reflection, the exclusive-or and the byte reflection, in this order (R226). -/
theorem finalized_unfinalized (h : Ready s) {x : Word} (hx : x ≤ s.mask) : finalized s (unfinalized s x) = x := by
  have hxor := xor_le_mask h (unfinalized_bytes_le_mask h hx) (ready_aXorout_le h)
  have hbits : (if s.aRefoutBits then bitsReflected (unfinalized s x) s.aBits.toNat else unfinalized s x) =
      (if s.aRefoutBytes then bytesReflected x s.nbytes.toNat else x) ^^^ s.aXorout := by
    simp only [unfinalized]
    by_cases hr : s.aRefoutBits = true
    · simp only [hr, if_true]
      exact bitsReflected_bitsReflected_of_le h hxor
    · simp only [hr]
      rfl
  simp only [finalized]
  rw [hbits, BitVec.xor_assoc, BitVec.xor_self, BitVec.xor_zero]
  by_cases hb : s.aRefoutBytes = true
  · simp only [hb, if_true]
    exact bytesReflected_bytesReflected_of_le h hb hx
  · simp [hb]

theorem bitsReflected_zero {n : Nat} (hn : n ≤ 64) : bitsReflected 0#64 n = 0#64 := by
  apply BitVec.eq_of_getLsbD_eq
  intro k _
  simp [getLsbD_bitsReflected 0#64 hn]

theorem reflectBytesRounds_zero (n : Nat) : ∀ j, reflectBytesRounds 0#64 n j = 0#64
  | 0 => rfl
  | j + 1 => by simp [reflectBytesRounds, reflectBytesRounds_zero n j]

/-- The accumulator of a message shown as 0 is XOROUT, bit-reflected with REFOUT_BITS. -/
theorem unfinalized_zero (s : State) :
    unfinalized s 0 = if s.aRefoutBits then bitsReflected s.aXorout s.aBits.toNat else s.aXorout := by
  simp [unfinalized, bytesReflected, reflectBytesRounds_zero]

theorem unfinalized_zero_ne_zero (h : Ready s) (hx : s.aXorout ≠ 0) : unfinalized s 0 ≠ 0 := by
  rw [unfinalized_zero]
  split
  · intro hzero
    have hback := bitsReflected_bitsReflected_of_le h (ready_aXorout_le h)
    rw [hzero] at hback
    exact hx (hback.symm.trans (bitsReflected_zero s.aBits.isLt.le))
  · exact hx

/-- A command answers one state. -/
theorem eq_of_exec_of_execCase {u : State} (h : exec i s = .next t) (he : ExecCase s i u) : t = u := by
  simpa [exec_of_execCase he] using h.symm

/-- Settles O21: RESUME loads Unfinalize(OPERAND), which Finalize takes back to OPERAND. -/
theorem resumeResult : Obligations.ResumeResult := by
  refine ⟨fun _ => decode_eq_some_iff_eq_encode (i := .resume) rfl,
    illegalUnless_encode (i := .resume) fun j hj => by cases j <;> simp [opcField] at hj ⊢,
    fun s hc ho => exec_of_execCase (.resumed hc ho),
    fun s hc ho => exec_of_execCase (.operandRange (.inl rfl) hc ho),
    fun s hc => exec_of_execCase (.notConfigured (.inr (.inr (.inl rfl))) hc),
    fun s t hr ho h => ?_, fun s t hr ho h => ?_, fun s h ho => ?_⟩
  · obtain rfl := eq_of_exec_of_execCase h (.resumed hr.2 ho)
    exact (regRead_result_withAcc hr.2 _).trans (finalized_unfinalized hr ho)
  · obtain rfl := eq_of_exec_of_execCase h (.resumed hr.2 (ho ▸ Nat.zero_le s.mask.toNat))
    refine ⟨rfl, fun hx => ?_⟩
    change unfinalized s s.operand ≠ 0
    rw [ho]
    exact unfinalized_zero_ne_zero hr hx
  · have hactive := sameActive_of_activeIs h
    obtain ⟨hc, -, -, -, -, -, -, -, hmask, -⟩ := h
    have hle : s.operand ≤ s.mask := by rw [ho, hmask]; decide
    refine ⟨_, exec_of_execCase (.resumed hc hle), (unfinalized_of_sameActive hactive s.operand).trans ?_⟩
    rw [ho]
    decide

/-! ## What the commands leave unchanged (R252) -/

theorem sameHost_of_execCase (h : ExecCase s i t) : SameHost s t := by
  cases h <;> exact ⟨rfl, rfl, rfl⟩

/-- Every command that is not listed in R39 keeps AUXOUT. -/
theorem auxout_of_execCase (h : ExecCase s i t) (hi : ¬ WritesAuxout i) : t.auxout = s.auxout := by
  cases h with
  | finalized | unfinalized | bits | bytes => simp [WritesAuxout] at hi
  | _ => rfl

/-- Only a BUILD_TABLE that succeeds writes the table RAM. -/
theorem sameTableRam_of_execCase (h : ExecCase s i t) (hi : i = .buildTable → t.lastErr ≠ 0) : SameTableRam s t := by
  cases h with
  | built => exact absurd rfl (hi rfl)
  | _ => exact fun _ => rfl

/-- An error outcome, but for CONFIGURE's, writes the error record alone. -/
theorem eq_failed_of_execCase (h : ExecCase s i t) (hi : i ≠ .configure) (hne : t.lastErr ≠ 0) :
    ∃ e, t = s.failed e := by
  cases h with
  | deconfigured => exact absurd rfl hi
  | notConfigured | noTable | operandRange | illegalBits | illegalBytes => exact ⟨_, rfl⟩
  | _ => exact absurd rfl hne

/-- ERR_STICKY, but for CLEAR_ERR: kept on OK and set on an error. -/
theorem errSticky_of_execCase (h : ExecCase s i t) (hi : i ≠ .clearErr) :
    (t.lastErr = 0 → t.errSticky = s.errSticky) ∧ (t.lastErr ≠ 0 → t.errSticky = true) := by
  obtain ⟨hok, hkept | ⟨hclear, -⟩⟩ | ⟨e, he, hcode, hset⟩ := errorRecord_of_execCase h
  · exact ⟨fun _ => hkept, absurd hok⟩
  · exact absurd hclear hi
  · exact ⟨fun hok => absurd (hcode.symm.trans hok) (code_ne_zero he), fun _ => hset⟩

/-- TABLE_VALID is written by CONFIGURE and by a BUILD_TABLE that succeeds, and kept otherwise. -/
theorem tableValid_kept_of_execCase (h : ExecCase s i t) (hc : i ≠ .configure) (hb : i = .buildTable → t.lastErr ≠ 0) :
    t.tableValid = s.tableValid := by
  obtain ⟨hkept, -⟩ | ⟨hi, -⟩ | ⟨hi, -, hok⟩ := tableValid_of_execCase h
  · exact hkept
  · exact absurd hi hc
  · exact absurd hok (hb hi)

/-- Settles O50: the commands that write ACC write no other register, and on an error only the error record. -/
theorem accCommandsFrame : Obligations.AccCommandsFrame := by
  intro i s t hi hc h
  have he := exec_cases h
  have hbuild : i = .buildTable → t.lastErr ≠ 0 := by rintro rfl; simp [WritesAcc] at hi
  have haux : ¬ WritesAuxout i := by
    obtain rfl | rfl | rfl | ⟨d, rfl⟩ | ⟨d, rfl⟩ := hi <;> simp [WritesAuxout]
  have hclear : i ≠ .clearErr := by rintro rfl; simp [WritesAcc] at hi
  obtain ⟨hkept, hset⟩ := errSticky_of_execCase he hclear
  refine ⟨sameStaging_of_execCase he, sameActive_of_execCase he hc, sameTableRam_of_execCase he hbuild,
    tableValid_kept_of_execCase he hc hbuild, auxout_of_execCase he haux, sameHost_of_execCase he, hkept,
    fun hne => ⟨hset hne, ?_⟩⟩
  obtain ⟨e, rfl⟩ := eq_failed_of_execCase he hc hne
  rfl

/-- Settles O52: each register is kept because the command is none of those that write it. -/
theorem otherCommandsFrame : Obligations.OtherCommandsFrame := by
  refine fun s t => ⟨?_, fun h => ?_, fun h => ?_, fun h => ?_⟩
  · rintro (h | h) <;> cases h <;>
      exact ⟨⟨rfl, rfl, rfl, rfl, rfl⟩, sameActive_refl s, fun _ => rfl, rfl, rfl, rfl, rfl, rfl, rfl⟩
  · cases h
    rfl
  · have he := exec_cases h
    obtain ⟨hkept, hset⟩ := errSticky_of_execCase he nofun
    have hacc : t.acc = s.acc := by_contra fun hne => by simpa [WritesAcc] using writesAcc_of_execCase he hne
    exact ⟨sameStaging_of_execCase he, sameActive_of_execCase he nofun, hacc,
      auxout_of_execCase he (by simp [WritesAuxout]), sameHost_of_execCase he, hkept, fun hne =>
      ⟨hset hne, tableValid_kept_of_execCase he nofun fun _ => hne, sameTableRam_of_execCase he fun _ => hne⟩⟩
  · have he := exec_cases h
    exact ⟨sameStaging_of_execCase he, sameTableRam_of_execCase he nofun,
      auxout_of_execCase he (by simp [WritesAuxout]), sameHost_of_execCase he, errSticky_of_execCase he nofun⟩

end Sys2Proof.Proofs
end

section
/-! PROOFS. The bitwise engine (spec/41_bitwise_engine.md): UPDATE_SLOW's words, outcomes and range (R172, R173), the
division as a linear map (R175), RESULT with no byte fed (R177), and the table entries the division gives (R190). -/

namespace Sys2Proof.Proofs

open Sys2Proof Sys2Proof.Machine Sys2Proof.Safety

variable {s t : State} {w : Word}

/-! ## The division (R170, R173, R175) -/

/-- Settles O25: the eighth round's value is in range, and UPDATE_SLOW answers a state that keeps the invariant. -/
theorem divisionStaysInRange : Obligations.DivisionStaysInRange := by
  refine fun s h => ⟨fun crc _ => ⟨div8_le_mask h crc, slowStep_le_mask h crc⟩, fun d t ht => ?_⟩
  exact (stateInv_of_execCase h.1 (exec_cases ht)).acc.1

theorem div8_xor (h : Ready s) (a b : Word) : div8 s (a ^^^ b) = div8 s a ^^^ div8 s b :=
  divRounds_xor (m := s.aBits.toNat - 1) (by have := s.aBits.isLt; omega) (ready_topbit h) 8 a b

/-- Linearity at 0: `Div8(0) = Div8(0) ^ Div8(0)`. -/
theorem div8_zero (h : Ready s) : div8 s 0 = 0 := by
  simpa using div8_xor h 0 0

/-- Settles O26: each of the eight rounds is linear. -/
theorem divisionIsLinear : Obligations.DivisionIsLinear :=
  fun _ h => ⟨fun a b _ _ => div8_xor h a b, div8_zero h⟩

/-! ## UPDATE_SLOW (R171, R172) -/

theorem assembleWord_of_no_count (o d : Byte) : assembleWord o d 0 = o.setWidth 64 ||| (d.setWidth 64 <<< 8) := by
  simp [assembleWord]

theorem decode_eq_updateSlow_iff {d : Byte} :
    decode w = some (.updateSlow d) ↔ w = 0x05 ||| (d.setWidth 64 <<< 8) := by
  rw [decode_eq_some_iff_eq_encode rfl, encode, assembleWord_of_no_count]
  rfl

/-- The illegal words of the two opcodes whose rows have DATA and no N (R117). -/
theorem illegalUnless_of_data_row {opc : Nat} (hopc : opc = 0x05 ∨ opc = 0x06) :
    IllegalUnless opc fun w => w.extractLsb' 16 7 = 0 ∧ w.extractLsb' 23 41 = 0 := by
  refine illegalUnless_of_illegalFields fun w hw hlegal => illegalFields_iff.mpr ?_
  change ¬ (nOf w = 0 ∧ rsvOf w = 0) at hlegal
  obtain hn | hrsv := not_and_or.mp hlegal
  · exact .inr (.inr (.inl ⟨by omega, .inr ⟨by omega, by omega, hn⟩⟩))
  · exact .inl hrsv

theorem inputByte_zero (s : State) : inputByte s 0 = 0 := by
  unfold inputByte
  split
  · exact bitsReflected_zero (by decide)
  · rfl

theorem slowStep_zero_zero (h : Ready s) : slowStep s 0 0 = 0 := by
  rw [slowStep, inputByte_zero]
  simpa using div8_zero h

/-- With 8 bits the byte stands at the accumulator's top byte as it is. -/
theorem slowStep_of_eight_bits (hb : s.aBits = 8) (crc : Word) (d : Byte) :
    slowStep s crc d = div8 s (crc ^^^ inputByte s d) := by
  simp [slowStep, topByteShift, hb]

theorem inputByte_one_of_refin (hr : s.aRefin = true) : inputByte s 0x01 = 0x80 :=
  (if_pos hr).trans (by decide)

/-- With a table the two UPDATEs of a byte are one command (R195). -/
theorem exec_updateSlow_eq_updateFast (h : Ready s) (ht : s.tableValid = true) (d : Byte) :
    exec (.updateSlow d) s = exec (.updateFast d) s := by
  rw [exec_of_execCase (.slow d h.2), exec_of_execCase (.fast d h.2 ht), fastStep_eq_slowStep h ht h.1.acc.1]

/-- Settles O23: the command's words, its outcomes, SlowStep at the rule's corners and the example. -/
theorem updateSlowResult : Obligations.UpdateSlowResult := by
  refine ⟨fun w d => decode_eq_updateSlow_iff, illegalUnless_of_data_row (.inl rfl),
    fun s d hc => exec_of_execCase (.slow d hc),
    fun s d hc => exec_of_execCase (.notConfigured (.inr (.inr (.inr (.inl ⟨d, rfl⟩)))) hc),
    fun s => slowStep_zero_zero, fun s d hb => slowStep_of_eight_bits hb s.acc d, fun s => inputByte_one_of_refin,
    fun s d h ht => exec_updateSlow_eq_updateFast h ht d, fun s h hacc => ?_⟩
  have hactive := sameActive_of_activeIs h
  refine ⟨_, exec_of_execCase (.slow 0x31 h.1), (slowStep_of_sameActive hactive s.acc 0x31).trans ?_⟩
  rw [hacc]
  decide

/-! ## RESULT with no byte fed (R177) -/

theorem regRead_result (hc : s.cfgValid = true) : regRead 0x011 s = finalized s s.acc := if_pos hc

theorem finalized_aInit_of_activeIs {c : BitVec 11} {p n x : Word} (h : ActiveIs s c p n x) :
    finalized s s.aInit = finalized (configuredWith c p n x) n := by
  have hactive := sameActive_of_activeIs h
  obtain ⟨-, -, -, -, -, -, hinit, -⟩ := h
  rw [finalized_of_sameActive hactive, hinit]

/-- Settles O30: CONFIGURE and START leave INIT in ACC, and RESULT is Finalize of it. -/
theorem emptyMessageResult : Obligations.EmptyMessageResult := by
  refine ⟨fun s t h hc => ?_, fun s t hc h => ?_, fun s h => ?_, fun s h => ?_⟩
  · obtain ⟨-, rfl⟩ | ⟨-, rfl⟩ := configure_cases (exec_cases h)
    · exact regRead_result hc
    · exact absurd hc (by simp)
  · obtain rfl := eq_of_exec_of_execCase h (.started hc)
    exact regRead_result hc
  · exact (finalized_aInit_of_activeIs h).trans (by decide)
  · exact (finalized_aInit_of_activeIs h).trans (by decide)

/-! ## The table entries 0 and 1 (R190) -/

/-- The rounds of a division, the last one split off. -/
theorem divRounds_succ_last (s : State) : ∀ (k : Nat) (crc : Word),
    divRounds s (k + 1) crc = divRound s (divRounds s k crc)
  | 0, _ => rfl
  | k + 1, crc => divRounds_succ_last s k (divRound s crc)

theorem getLsbD_one_shiftLeft {k : Nat} (hk : k < 64) (i : Nat) : ((1 : Word) <<< k).getLsbD i = decide (i = k) :=
  (BitVec.getLsbD_twoPow k i).trans (by simp [hk, eq_comm])

theorem one_shiftLeft_eq_topbit (h : Ready s) : (1 : Word) <<< (s.aBits.toNat - 1) = s.topbit := by
  apply BitVec.eq_of_getLsbD_eq
  intro i _
  rw [ready_topbit h, getLsbD_one_shiftLeft (by have := s.aBits.isLt; omega)]

/-- The round that brings `X^BITS` up leaves POLY. -/
theorem divRound_topbit (h : Ready s) : divRound s s.topbit = s.aPoly := by
  have hn := ready_bits h
  have hset : s.topbit &&& s.topbit ≠ 0 :=
    (and_twoPow64_ne_zero_iff (by omega) _ _ (ready_topbit h)).mpr (by simp [ready_topbit h])
  have hout : s.topbit <<< 1 &&& s.mask = 0 := by
    rw [ready_mask h, ← one_shiftLeft_eq_topbit h, ← BitVec.shiftLeft_add, Nat.sub_add_cancel (by omega)]
    apply BitVec.eq_of_getLsbD_eq
    intro i _
    rw [BitVec.getLsbD_and, getLsbD_one_shiftLeft (by omega), getLsbD_lowMask (by omega)]
    by_cases hi : i = s.aBits.toNat <;> simp [hi]
  rw [divRound, if_pos hset, hout]
  exact BitVec.zero_xor

theorem tableEntry_zero (h : Ready s) : tableEntry s 0 = 0 := by
  simpa [tableEntry] using div8_zero h

/-- Seven rounds shift the byte's lowest bit to the top of the accumulator, and the eighth reduces it to POLY. -/
theorem tableEntry_one (h : Ready s) : tableEntry s 1 = s.aPoly := by
  obtain ⟨hlo, hhi⟩ := ready_bits h
  have hshift : topByteShift s + 7 = s.aBits.toNat - 1 := by unfold topByteShift; omega
  have hseven : divRounds s 7 ((1 : Word) <<< topByteShift s) = s.topbit := by
    rw [divRounds_of_top_clear h 7 (by omega), ← BitVec.shiftLeft_add, hshift, one_shiftLeft_eq_topbit h]
    intro i hi
    rw [getLsbD_one_shiftLeft (by omega), decide_eq_false (by omega)]
  calc tableEntry s 1
      = divRounds s 8 ((1 : Word) <<< topByteShift s) := rfl
    _ = s.aPoly := by rw [divRounds_succ_last, hseven, divRound_topbit h]

/-- Settles O32: an entry is a value of Div8; entry 0 is Div8(0), and entry 1 is `X^BITS` reduced once. -/
theorem tableEntriesOfEveryConfiguration : Obligations.TableEntriesOfEveryConfiguration :=
  fun _ h => ⟨tableEntry_le_mask h, tableEntry_zero h, tableEntry_one h⟩

end Sys2Proof.Proofs
end

section
/-! PROOFS. The table engine (spec/42_table_engine.md): BUILD_TABLE's words, outcomes and idempotence (R191, R197), what
the table depends on (R192), UPDATE_FAST (R194), runs that mix the two UPDATE commands (R195) and the table window
(R196). -/

namespace Sys2Proof.Proofs

open Sys2Proof Sys2Proof.Machine Sys2Proof.Safety

variable {s t : State} {w : Word}

/-! ## The table window (R196) -/

theorem regRead_of_window {x : RegIndex} {k : EntryIndex} (hx : x.toNat = 0x100 + k.toNat) (s : State) :
    regRead x s = tableWindow s k := by
  have hentry : x.setWidth 8 = k := by bv_omega
  rw [regRead, if_pos (by omega), hentry]

/-- Settles O13: the window's indices stand above those a write reaches. -/
theorem tableWindowReads : Obligations.TableWindowReads := by
  refine fun s k x hx => ⟨fun hv => (regRead_of_window hx s).trans (if_pos hv),
    fun hv => (regRead_of_window hx s).trans (if_neg (by simp [hv])), ⟨_, rfl, rfl⟩, fun v => ?_⟩
  exact regWrite_of_six_le (by omega) v s

/-! ## What the table depends on (R192) -/

/-- Settles O33: with equal BITS the derived registers are equal, and an entry reads these and POLY. -/
theorem tableDependsOnlyOnWidthAndPolynomial : Obligations.TableDependsOnlyOnWidthAndPolynomial := by
  refine ⟨fun s t hs ht hbits hpoly => ?_, fun s t h => ?_⟩
  · have hmask : s.mask = t.mask := by rw [ready_mask hs, ready_mask ht, hbits]
    have htop : s.topbit = t.topbit :=
      BitVec.eq_of_getLsbD_eq fun k _ => by rw [ready_topbit hs, ready_topbit ht, hbits]
    exact tableEntry_congr hmask htop hpoly hbits
  · obtain ⟨-, rfl⟩ | ⟨-, rfl⟩ := configure_cases (exec_cases h) <;> rfl

/-! ## The table of POLY = 0 (R191) -/

/-- Without a POLY to add, `k` rounds move the lowest set bit up by `k` places. -/
theorem getLsbD_divRounds_of_aPoly_zero (hp : s.aPoly = 0) : ∀ (k : Nat) {m : Nat} {x : Word},
    (∀ i < m, x.getLsbD i = false) → ∀ i < m + k, (divRounds s k x).getLsbD i = false
  | 0, _, _, hx => hx
  | k + 1, m, x, hx => by
    have hround : divRound s x = x <<< 1 &&& s.mask := by simp [divRound, hp]
    have hlow : ∀ i < m + 1, (divRound s x).getLsbD i = false := fun i hi => by
      obtain rfl | hpos := Nat.eq_zero_or_pos i
      · simp [hround]
      · simp [hround, hx (i - 1) (by omega)]
    intro i hi
    exact getLsbD_divRounds_of_aPoly_zero hp k hlow i (by omega)

/-- The eight rounds shift the whole index out. -/
theorem tableEntry_of_aPoly_zero (h : Ready s) (hp : s.aPoly = 0) (k : EntryIndex) : tableEntry s k = 0 := by
  have hlo := (ready_bits h).1
  have hshift : topByteShift s + 8 = s.aBits.toNat := by unfold topByteShift; omega
  refine BitVec.eq_of_getLsbD_eq fun i _ => Eq.trans ?_ BitVec.getLsbD_zero.symm
  by_cases hi : i < s.aBits.toNat
  · exact getLsbD_divRounds_of_aPoly_zero hp 8 (m := topByteShift s) (fun j hj => by simp [hj]) i (by omega)
  · exact (ready_le_mask_iff h _).mp (tableEntry_le_mask h k) i (by omega)

/-! ## BUILD_TABLE (R191) -/

/-- The state a BUILD_TABLE that succeeds leaves. -/
def tableBuilt (s : State) : State := (s.withTable (builtTable s)).succeeded

theorem exec_buildTable (hc : s.cfgValid = true) : exec .buildTable s = .next (tableBuilt s) :=
  exec_of_execCase (.built hc)

theorem memRead_tableBuilt (s : State) (k : EntryIndex) : memRead (tableBuilt s).table k = tableEntry s k :=
  memRead_builtTable s k

theorem memRead_tableBuilt_of_activeIs {c : BitVec 11} {p n x : Word} (h : ActiveIs s c p n x) (k : EntryIndex) :
    memRead (tableBuilt s).table k = tableEntry (configuredWith c p n x) k :=
  (memRead_tableBuilt s k).trans (tableEntry_of_sameActive (sameActive_of_activeIs h) k)

theorem statusWord_tableBuilt (hc : s.cfgValid = true) (he : s.errSticky = false) :
    statusWord (tableBuilt s) = 0x003 := by
  simp [tableBuilt, statusWord, flagWord, hc, he]

/-- Settles O31: the command's words, its outcomes, the table of POLY = 0 and the example. -/
theorem buildTableResult : Obligations.BuildTableResult := by
  refine ⟨fun _ => decode_eq_some_iff_eq_encode (i := .buildTable) rfl,
    illegalUnless_encode (i := .buildTable) fun j hj => by cases j <;> simp [opcField] at hj ⊢,
    fun s hc => ⟨_, exec_buildTable hc, memRead_tableBuilt s, rfl⟩,
    fun s hc => exec_of_execCase (.notConfigured (.inl rfl) hc), fun s h ht => ?_,
    fun s k h hp => tableEntry_of_aPoly_zero h hp k, fun s h he => ?_⟩
  · obtain ⟨-, hentry⟩ := h.1.table ht
    exact ⟨_, exec_buildTable h.2, fun k => (memRead_tableBuilt s k).trans (hentry k).symm⟩
  · have hentry := memRead_tableBuilt_of_activeIs h
    refine ⟨_, exec_buildTable h.1, ?_, ?_, ?_, ?_, ?_, statusWord_tableBuilt h.1 he⟩ <;> rw [hentry] <;> decide

/-! ## Any number of BUILD_TABLE commands (R197) -/

theorem tableBuilt_withPending (s : State) (p : List HostAccess) :
    tableBuilt (s.withPending p) = (tableBuilt s).withPending p := by
  rw [tableBuilt, builtTable_of_sameActive (s := s) (t := s.withPending p) (sameActive_refl s)]
  rfl

/-- BUILD_TABLE changes nothing but LAST_ERR where the table stands already. -/
theorem tableBuilt_of_table (htab : s.table = builtTable s) (hv : s.tableValid = true) :
    tableBuilt s = s.succeeded := by
  have hkept : s.withTable s.table = s := by rw [State.withTable, ← hv]
  rw [tableBuilt, ← htab, hkept]

@[simp] theorem tableBuilt_tableBuilt (s : State) : tableBuilt (tableBuilt s) = tableBuilt s :=
  tableBuilt_of_table (builtTable_of_sameActive (t := tableBuilt s) (sameActive_refl s)).symm rfl

theorem step_of_pending_buildTable (hc : s.cfgValid = true) {rest : List HostAccess}
    (hp : s.pending = command .buildTable :: rest) : step s = .next ((tableBuilt s).withPending rest) :=
  tableBuilt_withPending s rest ▸ step_of_pending_command hp rfl (.built hc)

/-- Further BUILD_TABLE commands find the table they write. -/
theorem runs_of_buildTables (hc : s.cfgValid = true) (rest : List HostAccess) : ∀ k : Nat,
    runs k ((tableBuilt s).withPending (List.replicate k (command .buildTable) ++ rest))
      ((tableBuilt s).withPending rest)
  | 0 => runs_zero _
  | k + 1 => by
    have hstep := step_of_pending_buildTable
      (s := (tableBuilt s).withPending (List.replicate (k + 1) (command .buildTable) ++ rest)) hc rfl
    rw [tableBuilt_withPending, tableBuilt_tableBuilt] at hstep
    exact runs_succ hstep (runs_of_buildTables hc rest k)

/-- Settles O36: the table a BUILD_TABLE leaves is the one the next writes. -/
theorem buildTableIsIdempotent : Obligations.BuildTableIsIdempotent := by
  refine ⟨fun s t u hc ha hu hram hv => ?_, fun k s rest hc hp => ?_⟩
  · obtain rfl : u = tableBuilt s := eq_of_exec_of_execCase hu (.built hc)
    have htab : t.table = builtTable t := (tableRam_ext hram).trans (builtTable_of_sameActive ha).symm
    refine ⟨_, exec_buildTable (ha.1.trans hc), ?_⟩
    rw [tableBuilt_of_table htab hv]
    exact ⟨hram, hv, rfl⟩
  · have hone : exec .buildTable (s.withPending rest) = .next ((tableBuilt s).withPending rest) :=
      tableBuilt_withPending s rest ▸ exec_buildTable hc
    exact ⟨_, hone, runs_succ (step_of_pending_buildTable hc hp) (runs_of_buildTables hc rest k)⟩

/-! ## UPDATE_FAST (R193, R194) -/

theorem decode_eq_updateFast_iff {d : Byte} :
    decode w = some (.updateFast d) ↔ w = 0x06 ||| (d.setWidth 64 <<< 8) := by
  rw [decode_eq_some_iff_eq_encode rfl, encode, assembleWord_of_no_count]
  rfl

/-- With 8 bits the accumulator is the top byte alone, and nothing of it stays below the looked-up entry. -/
theorem fastStep_of_eight_bits (h : Ready s) (hb : s.aBits = 8) (crc : Word) (d : Byte) :
    fastStep s crc d = memRead s.table ((crc ^^^ inputByte s d).setWidth 8) := by
  have hindex : lookupIndex s crc d = (crc ^^^ inputByte s d).setWidth 8 :=
    BitVec.eq_of_getLsbD_eq fun k hk => by
      rw [getLsbD_lookupIndex]
      simp [topByteShift, hb, hk]
  have hout : crc <<< 8 &&& s.mask = 0 := by
    rw [ready_mask h, hb]
    refine BitVec.eq_of_getLsbD_eq fun k _ => ?_
    by_cases hk : k < 8 <;> simp [getLsbD_lowMask, hk]
  rw [fastStep, hindex, hout]
  exact BitVec.zero_xor

theorem lookupIndex_of_sameActive (ha : SameActive s t) (crc : Word) (d : Byte) :
    lookupIndex t crc d = lookupIndex s crc d := by
  have hin := inputByte_of_sameActive ha d
  obtain ⟨-, hbits, -⟩ := ha
  rw [lookupIndex, lookupIndex, hin, topByteShift, topByteShift, hbits]

/-- Settles O34: the command's words, its outcomes, FastStep at 8 bits, and the example, whose end is UPDATE_SLOW's. -/
theorem updateFastResult : Obligations.UpdateFastResult := by
  refine ⟨fun w d => decode_eq_updateFast_iff, illegalUnless_of_data_row (.inr rfl),
    fun s d hc ht => exec_of_execCase (.fast d hc ht), fun s d hc ht => exec_of_execCase (.noTable d hc ht),
    fun s d hc => exec_of_execCase (.notConfigured (.inr (.inr (.inr (.inr (.inl ⟨d, rfl⟩))))) hc),
    fun s d h ht => (exec_updateSlow_eq_updateFast h ht d).symm,
    fun s d h hb => fastStep_of_eight_bits h hb s.acc d, fun s h hcrc ht hacc => ?_⟩
  have hactive := sameActive_of_activeIs hcrc
  obtain ⟨-, hentry⟩ := h.1.table ht
  obtain ⟨-, -, -, -, -, -, -, -, hslow⟩ := updateSlowResult
  rw [inputByte_of_sameActive hactive, lookupIndex_of_sameActive hactive, hentry, tableEntry_of_sameActive hactive,
    hacc, ← exec_updateSlow_eq_updateFast h ht]
  exact ⟨by decide, by decide, by decide, hslow s hcrc hacc⟩

/-! ## Any mix of the two UPDATE commands (R195) -/

/-- UPDATE_FAST of the byte where the flag is set, else UPDATE_SLOW. -/
def updateOf (b : Bool × Byte) : Instr := if b.1 then .updateFast b.2 else .updateSlow b.2

/-- What `updateOf` folds into ACC. -/
def updateStep (s : State) (crc : Word) (b : Bool × Byte) : Word :=
  if b.1 then fastStep s crc b.2 else slowStep s crc b.2

theorem wellFormed_updateOf : ∀ b : Bool × Byte, (updateOf b).wellFormed = true
  | (true, _) => rfl
  | (false, _) => rfl

theorem execCase_updateOf_progressed (hc : s.cfgValid = true) (ht : s.tableValid = true) (p : List HostAccess)
    (crc : Word) (e : BitVec 4) :
    ∀ b : Bool × Byte, ExecCase (progressed s p crc e) (updateOf b) (progressed s p (updateStep s crc b) 0)
  | (true, d) => execCase_updateFast_progressed hc ht p crc e d
  | (false, d) => execCase_updateSlow_progressed hc p crc e d

theorem updateStep_eq_slowStep (h : Ready s) (ht : s.tableValid = true) {crc : Word} (hcrc : crc ≤ s.mask) :
    ∀ b : Bool × Byte, updateStep s crc b = slowStep s crc b.2
  | (true, d) => fastStep_eq_slowStep h ht hcrc d
  | (false, _) => rfl

theorem foldl_updateStep_eq_accAfter (h : Ready s) (ht : s.tableValid = true) :
    ∀ (m : List (Bool × Byte)) {crc : Word}, crc ≤ s.mask →
      m.foldl (updateStep s) crc = accAfter s crc (m.map Prod.snd)
  | [], _, _ => rfl
  | b :: m, crc, hcrc => by
    rw [List.foldl_cons, updateStep_eq_slowStep h ht hcrc,
      foldl_updateStep_eq_accAfter h ht m (slowStep_le_mask h crc b.2)]
    rfl

/-- Settles O35: each command of the mix folds its byte, and the accumulator stays in the range where the two steps
agree. -/
theorem fastStepEqualsSlowStep : Obligations.FastStepEqualsSlowStep := by
  refine ⟨fun s crc d h ht hcrc => ⟨fastStep_eq_slowStep h ht hcrc d, fastStep_le_mask h ht crc d⟩,
    fun m s rest h ht hm hp => ?_⟩
  have hrun := runs_of_fold wellFormed_updateOf (execCase_updateOf_progressed h.2 ht) rest m s.acc s.lastErr
    (absurd · hm)
  change s.pending = m.map (fun b => command (updateOf b)) ++ rest at hp
  rw [← hp, foldl_updateStep_eq_accAfter h ht m h.1.acc.1] at hrun
  exact hrun

end Sys2Proof.Proofs
end

section
/-! PROOFS. The reflections and Finalize as the rules state them (R220 to R228), the two commands that apply Finalize
and Unfinalize to OPERAND (R231, R232), and what the commands that write AUXOUT leave unchanged (R252). -/

namespace Sys2Proof.Proofs

open Sys2Proof Sys2Proof.Machine Sys2Proof.Safety

variable {s t u : State} {i : Instr}

/-! ## The two reflections (R220, R221, R222) -/

/-- Settles O38: after the last round of each loop every kept bit is in its place; for n = 0 there is no round. -/
theorem reflectionMovesBitsAndBytes : Obligations.ReflectionMovesBitsAndBytes :=
  ⟨fun v _ i hn => getLsbD_bitsReflected v hn i, fun v _ j _ hn hk => getLsbD_bytesReflected v hn j hk,
    fun _ => ⟨rfl, rfl⟩⟩

/-- Settles O39: a kept bit moves back to its place, the others are masked away. -/
theorem reflectionsAreInvolutions : Obligations.ReflectionsAreInvolutions :=
  ⟨fun x _ hn => bitsReflected_bitsReflected x hn, fun x _ hn => bytesReflected_bytesReflected x hn⟩

/-! ## Finalize, Unfinalize and RESULT (R226, R227, R228) -/

/-- Settles O42: each undoes the other's three steps in reverse order. -/
theorem finalizeRoundTrip : Obligations.FinalizeRoundTrip :=
  fun _ _ h hx => ⟨unfinalized_finalized h hx, finalized_unfinalized h hx⟩

/-- Settles O43: every step of the two functions keeps the range, and ACC is in it. -/
theorem finalizeStaysInRange : Obligations.FinalizeStaysInRange := by
  refine fun s h => ⟨fun x hx => ⟨finalized_le_mask h hx, unfinalized_le_mask h hx⟩, ?_⟩
  rw [regRead_result h.2]
  exact finalized_le_mask h h.1.acc.1

theorem regRead_result_absent (hc : s.cfgValid = false) : regRead 0x011 s = 0 := by
  change resultView s = 0
  simp [resultView, hc]

/-- Settles O14: the view is a function of the state, and a read only records its value for the host. -/
theorem resultViewReads : Obligations.ResultViewReads :=
  fun _ => ⟨regRead_result, regRead_result_absent, _, rfl, rfl⟩

/-! ## FINALIZE_OP and UNFINALIZE_OP (R231, R232) -/

/-- Without reflections and with XOROUT = 0 Finalize is the identity. -/
theorem finalized_of_plain (hbits : s.aRefoutBits = false) (hbytes : s.aRefoutBytes = false) (hxor : s.aXorout = 0)
    (x : Word) : finalized s x = x := by
  simp [finalized, hbits, hbytes, hxor]

theorem operand_le_mask_of_activeIs {c : BitVec 11} {p n x : Word} (h : ActiveIs s c p n x)
    (ho : s.operand ≤ maskOf (cfgBits c)) : s.operand ≤ s.mask := by
  obtain ⟨-, -, -, -, -, -, -, -, hmask, -⟩ := h
  rwa [hmask]

/-- Settles O44: the command's word, its three outcomes, the copying case and the example. -/
theorem finalizeOpResult : Obligations.FinalizeOpResult := by
  refine ⟨fun _ => decode_eq_some_iff_eq_encode (i := .finalizeOp) rfl,
    illegalUnless_encode (i := .finalizeOp) fun j hj => by cases j <;> simp [opcField] at hj ⊢,
    fun s hc ho => exec_of_execCase (.finalized hc ho),
    fun s hc ho => exec_of_execCase (.operandRange (.inr (.inl rfl)) hc ho),
    fun s hc => exec_of_execCase (.notConfigured (by simp [NeedsConfig]) hc),
    fun s hbits hbytes hxor => finalized_of_plain hbits hbytes hxor s.operand, fun s h ho => ?_⟩
  have hle := operand_le_mask_of_activeIs h (by rw [ho]; decide)
  refine ⟨_, exec_of_execCase (.finalized h.1 hle),
    (finalized_of_sameActive (sameActive_of_activeIs h) s.operand).trans ?_⟩
  rw [ho]
  decide

/-- UNFINALIZE_OP leaves in AUXOUT what RESUME would leave in ACC. -/
theorem unfinalizeOp_auxout_eq_resume_acc (hc : s.cfgValid = true) (ho : s.operand ≤ s.mask)
    (ht : exec .unfinalizeOp s = .next t) (hu : exec .resume s = .next u) : t.auxout = u.acc := by
  obtain rfl := eq_of_exec_of_execCase ht (.unfinalized hc ho)
  obtain rfl := eq_of_exec_of_execCase hu (.resumed hc ho)
  rfl

/-- Settles O45: the command's word, its three outcomes, RESUME's value and the example. -/
theorem unfinalizeOpResult : Obligations.UnfinalizeOpResult := by
  refine ⟨fun _ => decode_eq_some_iff_eq_encode (i := .unfinalizeOp) rfl,
    illegalUnless_encode (i := .unfinalizeOp) fun j hj => by cases j <;> simp [opcField] at hj ⊢,
    fun s hc ho => exec_of_execCase (.unfinalized hc ho),
    fun s hc ho => exec_of_execCase (.operandRange (.inr (.inr rfl)) hc ho),
    fun s hc => exec_of_execCase (.notConfigured (by simp [NeedsConfig]) hc),
    fun s t u => unfinalizeOp_auxout_eq_resume_acc, fun s h ho => ?_⟩
  have hle := operand_le_mask_of_activeIs h (by rw [ho]; decide)
  refine ⟨_, exec_of_execCase (.unfinalized h.1 hle),
    (unfinalized_of_sameActive (sameActive_of_activeIs h) s.operand).trans ?_⟩
  rw [ho]
  decide

/-! ## What the commands that write AUXOUT leave unchanged (R252) -/

/-- A command that writes AUXOUT is none of those that write another register or clear the error record. -/
theorem writesNothingElse_of_writesAuxout (h : WritesAuxout i) :
    ¬ WritesAcc i ∧ i ≠ .configure ∧ i ≠ .buildTable ∧ i ≠ .clearErr := by
  obtain ⟨n, rfl⟩ | ⟨n, rfl⟩ | rfl | rfl := h <;> simp [WritesAcc]

/-- Settles O51: each register is kept because the command is none of those that write it. -/
theorem auxoutCommandsFrame : Obligations.AuxoutCommandsFrame := by
  intro i s t hi h
  have he := exec_cases h
  obtain ⟨hacc, hconf, hbuild, hclear⟩ := writesNothingElse_of_writesAuxout hi
  obtain ⟨hkept, hset⟩ := errSticky_of_execCase he hclear
  refine ⟨sameStaging_of_execCase he, sameActive_of_execCase he hconf, sameTableRam_of_execCase he (absurd · hbuild),
    tableValid_kept_of_execCase he hconf (absurd · hbuild), by_contra fun hne => hacc (writesAcc_of_execCase he hne),
    sameHost_of_execCase he, hkept, fun hne => ⟨hset hne, ?_⟩⟩
  obtain ⟨e, rfl⟩ := eq_failed_of_execCase he hconf hne
  rfl

end Sys2Proof.Proofs
end

section
/-! PROOFS. The outcome code of a command word (spec/60_exceptions.md): each error code is reported exactly under its
own condition (R254, R255), and an error writes the error record alone, but for CONFIGURE's (R252, R256). -/

namespace Sys2Proof.Proofs

open Sys2Proof Sys2Proof.Machine Sys2Proof.Safety

variable {s t : State} {w : Word} {i : Instr} {e : OutcomeCode}

/-! ## When a word reports which error (R254, R255) -/

/-- The condition under which a word reports an error code, with R255's priority in it. OK is no error. -/
def ErrorCondition (w : Word) (s : State) : OutcomeCode → Prop
  | .ok => False
  | .illegal => decode w = none
  | .notConfigured => ∃ i, decode w = some i ∧ NeedsConfig i ∧ s.cfgValid = false
  | .badConfig => decode w = some .configure ∧ ¬ StagingLegal s
  | .noTable => ∃ d, decode w = some (.updateFast d) ∧ s.cfgValid = true ∧ s.tableValid = false
  | .operandRange => ∃ i, decode w = some i ∧ NeedsOperandInRange i ∧ s.cfgValid = true ∧ s.mask < s.operand

theorem code_injective : Function.Injective OutcomeCode.code := by
  intro e e' h
  cases e <;> cases e' <;> simp [OutcomeCode.code] at h ⊢

theorem not_stagingLegal_iff : ¬ StagingLegal s ↔ stagingLegal s = false := by
  rw [← stagingLegal_iff_legalInNumbers, Bool.not_eq_true]

/-- A word whose error condition holds reports that error. -/
theorem lastErr_of_errorCondition (h : executeWord w s = .next t) (hc : ErrorCondition w s e) :
    t.lastErr = e.code := by
  have report {i : Instr} {u : State} (hd : decode w = some i) (he : ExecCase s i u) : t = u :=
    eq_of_exec_of_execCase (executeWord_of_decode hd s ▸ h) he
  cases e with
  | ok => exact hc.elim
  | illegal =>
    cases (executeWord_of_illegal hc s).symm.trans h
    rfl
  | notConfigured =>
    obtain ⟨i, hd, hi, hv⟩ := hc
    exact report hd (.notConfigured hi hv) ▸ rfl
  | badConfig =>
    obtain ⟨hd, hl⟩ := hc
    exact report hd (.deconfigured (not_stagingLegal_iff.mp hl)) ▸ rfl
  | noTable =>
    obtain ⟨d, hd, hv, ht⟩ := hc
    exact report hd (.noTable d hv ht) ▸ rfl
  | operandRange =>
    obtain ⟨i, hd, hi, hv, ho⟩ := hc
    exact report hd (.operandRange hi hv ho) ▸ rfl

/-- An outcome of a decoded command is OK or an error whose condition holds: the decoder answers no N out of range. -/
theorem errorCondition_of_execCase (hd : decode w = some i) (h : ExecCase s i t) :
    t.lastErr = 0 ∨ ∃ e, t.lastErr = e.code ∧ ErrorCondition w s e := by
  have hwf : i.wellFormed = true := (encodeOfDecodeIsSame w i hd).2
  cases h with
  | deconfigured hl => exact .inr ⟨.badConfig, rfl, hd, not_stagingLegal_iff.mpr hl⟩
  | notConfigured hi hv => exact .inr ⟨.notConfigured, rfl, i, hd, hi, hv⟩
  | noTable d hv ht => exact .inr ⟨.noTable, rfl, d, hd, hv, ht⟩
  | operandRange hi hv ho => exact .inr ⟨.operandRange, rfl, i, hd, hi, hv, ho⟩
  | illegalBits n hn | illegalBytes n hn => exact absurd (of_decide_eq_true hwf) (Nat.not_le.mpr hn)
  | _ => exact .inl rfl

/-- A word reports OK or an error whose condition holds. -/
theorem errorCondition_of_executeWord (h : executeWord w s = .next t) :
    t.lastErr = 0 ∨ ∃ e, t.lastErr = e.code ∧ ErrorCondition w s e := by
  obtain ⟨i, hd, he⟩ | ⟨hd, rfl⟩ := executeWord_cases h
  · exact errorCondition_of_execCase hd he
  · exact .inr ⟨.illegal, rfl, hd⟩

/-- A word reports an error exactly if the error's condition holds. -/
theorem lastErr_eq_code_iff (h : executeWord w s = .next t) (hne : e ≠ .ok) :
    t.lastErr = e.code ↔ ErrorCondition w s e := by
  refine ⟨fun hcode => ?_, lastErr_of_errorCondition h⟩
  obtain hok | ⟨e', hcode', hc⟩ := errorCondition_of_executeWord h
  · exact absurd (hcode.symm.trans hok) (code_ne_zero hne)
  · exact code_injective (hcode.symm.trans hcode') ▸ hc

theorem lastErr_le_five (h : executeWord w s = .next t) : t.lastErr.toNat ≤ 5 := by
  obtain hok | ⟨e, hcode, -⟩ := errorCondition_of_executeWord h
  · simp [hok]
  · exact hcode ▸ code_le_five e

/-- Settles O46: each error code is reported exactly under its condition. -/
theorem reportedCodeFollowsPriority : Obligations.ReportedCodeFollowsPriority := by
  intro w s
  obtain ⟨t, h⟩ := executeWord_total w s
  exact ⟨t, h, lastErr_eq_code_iff (e := .illegal) h nofun, lastErr_eq_code_iff (e := .notConfigured) h nofun,
    lastErr_eq_code_iff (e := .badConfig) h nofun, lastErr_eq_code_iff (e := .noTable) h nofun,
    lastErr_eq_code_iff (e := .operandRange) h nofun, lastErr_le_five h⟩

/-! ## What an error leaves unchanged (R252, R256) -/

/-- Settles O47: an illegal word and every command but CONFIGURE fail by writing the error record alone, and CONFIGURE
fails by doing so in the deconfigured state. -/
theorem errorChangesOnlyTheRecord : Obligations.ErrorChangesOnlyTheRecord := by
  intro w s t h hne
  obtain ⟨i, hd, he⟩ | ⟨-, rfl⟩ := executeWord_cases h
  · by_cases hi : i = .configure
    · subst hi
      obtain ⟨-, rfl⟩ | ⟨-, rfl⟩ := configure_cases he
      · exact absurd rfl hne
      · exact ⟨rfl, .inr ⟨hd, rfl, rfl⟩⟩
    · obtain ⟨e, rfl⟩ := eq_failed_of_execCase he hi hne
      exact ⟨rfl, .inl rfl⟩
  · exact ⟨rfl, .inl rfl⟩

end Sys2Proof.Proofs
end
